-- ==== Sys2Proof/Word.lean ====
section
/-!
DEFINITION. The word types of the Hojra LC4: bytes and 16-bit fields of the link (R200), 32-bit part times and counters
(00_scope 5.2, 5.3), and the lane numbers 0 to 3 (00_scope 5.1).
-/

namespace Sys2Proof

/-- A byte of the host line, of a scanner line or of a record. -/
abbrev Byte := BitVec 8

/-- A two-byte field of the link (R200): sequences, event tags. -/
abbrev Half := BitVec 16

/-- A part time or a span of part time, in milliseconds, modulo 2^32 (00_scope 5.2, R193). -/
abbrev Time := BitVec 32

/-- A counter: 32 bits, wrapping (00_scope 5.3). -/
abbrev Count := BitVec 32

/-- A lane number 0 to 3 (00_scope 5.1). -/
abbrev LaneId := Fin 4

/-- A key position 0 to 127: row times 16 plus column (R53). -/
abbrev KeyPos := Fin 128

/-- A monitor index 0 to 7 (section 8.1). -/
abbrev MonitorId := Fin 8

end Sys2Proof
end

