-- ==== Sys2Proof/Config.lean ====
section
/-!
DEFINITION. What the part fixes (its identity and capacities) and the one family of free values: the orders the spec
leaves open. A free value has no body, so nothing can be proved from what it happens to be (log 5).
-/

namespace Sys2Proof

/-- The part identity code IDENTIFY reports (R201). -/
def Config.identityCode : Nat := 0x0C41

/-- The part revision, 1 (00_scope, R194, R197). -/
def Config.revision : Nat := 1

/-- The Event Store's slots (R3). -/
def Config.slots : Nat := 256

/-- The Classification Table's rules (R29). -/
def Config.ruleCount : Nat := 64

/-- The room of a FETCH reply body for event records: 250 bytes less the 7 of the fixed fields (R203). -/
def Config.fetchRoom : Nat := 243

/-- The frames the receive buffer holds (R188). -/
def Config.rxCapacity : Nat := 4

/-- The OVERRUN replies the transmit path may hold unsent (R188). -/
def Config.overrunCapacity : Nat := 8

/-- The order taken where the spec leaves the order of several blocks open: the n-th such choice. Free: log 5. -/
opaque Config.freeOrder : Nat → Nat

end Sys2Proof
end

