-- ==== Sys2Proof/Syntax.lean ====
section
/-!
DEFINITION. The commands of the block: one constructor for each row of spec/opcode_table.json.

The 34 request rows carry what crosses the link for them, the tag and the body bytes of the request frame (R185, R207);
a body of a wrong length, or a field out of its range, is thus a command like any other, answered as the rules say.
The remaining rows are what happens to the part: bytes, samples, timer expiries, resets.
-/

namespace Sys2Proof

/-- A scanner port of a lane: A the handheld scanner, B the in-counter scanner (00_scope 5.1). -/
inductive PortId where
  | a
  | b
  deriving DecidableEq, Repr

/-- The two outputs a signal pattern can play on (R42). -/
inductive SignalOut where
  | lamp
  | tone
  deriving DecidableEq, Repr

/-- The two resets that reach the part from outside (R197). -/
inductive ResetPin where
  | power
  | pin
  deriving DecidableEq, Repr

/-- The commands. -/
inductive Instr where
  | identify (tag : Byte) (body : List Byte)
  | readTime (tag : Byte) (body : List Byte)
  | resetPart (tag : Byte) (body : List Byte)
  | resetLane (tag : Byte) (body : List Byte)
  | setLaneEnables (tag : Byte) (body : List Byte)
  | readLaneStatus (tag : Byte) (body : List Byte)
  | setKeyboard (tag : Byte) (body : List Byte)
  | setKeys (tag : Byte) (body : List Byte)
  | setScannerLine (tag : Byte) (body : List Byte)
  | setScannerIds (tag : Byte) (body : List Byte)
  | setScannerChecks (tag : Byte) (body : List Byte)
  | setRepeat (tag : Byte) (body : List Byte)
  | setMeter (tag : Byte) (body : List Byte)
  | resyncScanner (tag : Byte) (body : List Byte)
  | writeRule (tag : Byte) (body : List Byte)
  | readRule (tag : Byte) (body : List Byte)
  | clearRule (tag : Byte) (body : List Byte)
  | setProfile (tag : Byte) (body : List Byte)
  | setAdmission (tag : Byte) (body : List Byte)
  | fetch (tag : Byte) (body : List Byte)
  | flush (tag : Byte) (body : List Byte)
  | await (tag : Byte) (body : List Byte)
  | cancelAwait (tag : Byte) (body : List Byte)
  | setDrawer (tag : Byte) (body : List Byte)
  | openDrawer (tag : Byte) (body : List Byte)
  | setInterlock (tag : Byte) (body : List Byte)
  | releaseInterlock (tag : Byte) (body : List Byte)
  | readInterlocks (tag : Byte) (body : List Byte)
  | setOutput (tag : Byte) (body : List Byte)
  | setPattern (tag : Byte) (body : List Byte)
  | enterAttendant (tag : Byte) (body : List Byte)
  | leaveAttendant (tag : Byte) (body : List Byte)
  | readCounters (tag : Byte) (body : List Byte)
  | clearCounters (tag : Byte) (body : List Byte)
  /-- A byte arrives on the host line (R187). -/
  | hostByteReceived (value : Byte)
  | linkGapExpiry
  | takeRequest
  | frameSent
  | readyNotice
  /-- A power-on or pin reset, with the two rate straps as they read then, strap 1 the high bit (R184, R197). -/
  | partReset (cause : ResetPin) (straps : BitVec 2)
  /-- The reset that ends RESET_PART, with the straps as they read then (R184, R198). -/
  | resetPartDrained (straps : BitVec 2)
  | awaitExpiry (lane : LaneId)
  /-- A sample of the lane's matrix: bit n is position n, set for a closed crossing (R54 to R56). -/
  | keyChangeAccepted (lane : LaneId) (raw : BitVec 128)
  | typematicRepeat (lane : LaneId)
  /-- The first sample after an enable or a restart (R69). -/
  | firstSampleAbsorb (lane : LaneId) (raw : BitVec 128)
  /-- A sample of the lane's key-lock inputs: LOCK bit 0, SALE bit 1, SUPERVISOR bit 2, SERVICE bit 3 (R71, R202). -/
  | keylockPatternAccepted (lane : LaneId) (inputs : BitVec 4)
  | keylockFault (lane : LaneId)
  /-- A character arrives at a scanner port: its data bits, its parity bit (read only with parity EVEN or ODD) and
  whether its stop bit was sampled at mark (R79). -/
  | scannerByte (lane : LaneId) (port : PortId) (value : Byte) (parityBit : Bool) (stopMark : Bool)
  | scannerBreak (lane : LaneId) (port : PortId)
  | scannerGapExpiry (lane : LaneId) (port : PortId)
  | errorWindowBoundary (lane : LaneId) (port : PortId)
  | symbolTake (lane : LaneId)
  | pacingRelease (lane : LaneId) (port : PortId)
  | pulseEnd (lane : LaneId)
  | cooldownEnd (lane : LaneId)
  /-- A sample of the sense switch that reads open (R136, R143). -/
  | drawerSenseOpen (lane : LaneId)
  /-- A sample of the sense switch that reads closed (R136, R147). -/
  | drawerSenseClose (lane : LaneId)
  | confirmExpiry (lane : LaneId)
  | queueExpiry (lane : LaneId)
  | leftOpen (lane : LaneId)
  | interlockQualifyExpiry (monitor : MonitorId)
  | patternStepEnd (lane : LaneId) (output : SignalOut)
  | blinkBoundary (lane : LaneId) (output : SignalOut)
  deriving DecidableEq, Repr

end Sys2Proof
end

