-- ==== Sys2Proof/Decode.lean ====
section
/-!
DEFINITION. The decoder over the rows of spec/opcode_table.json that give bits. No row gives any (every row's "fields"
is empty and none has "fixed"), so no word spells a command. The bytes of the host line are decoded in
Machine/Link.lean (R187) and the bodies of requests in Machine/Operands.lean (R200, R207).
-/

namespace Sys2Proof

/-- The command a table word spells: none, as the table gives no row bits. -/
def decodeTableWord (_nbits _w : Nat) : Option Instr := none

end Sys2Proof
end

