-- ==== Sys2Proof/Machine/Banks.lean ====
section
/-!
DEFINITION. Banks: one thing per lane, and one thing per scanner port of a lane (00_scope section 3: instances).
-/

namespace Sys2Proof.Machine

/-- One thing for each of the lanes 0 to 3. -/
structure Lanes (α : Type) where
  lane0 : α
  lane1 : α
  lane2 : α
  lane3 : α
  deriving DecidableEq, Repr

/-- The thing of lane q. -/
def Lanes.get {α : Type} (b : Lanes α) (q : LaneId) : α :=
  match q with
  | 0 => b.lane0
  | 1 => b.lane1
  | 2 => b.lane2
  | 3 => b.lane3

/-- The bank with the thing of lane q replaced. -/
def Lanes.set {α : Type} (b : Lanes α) (q : LaneId) (x : α) : Lanes α :=
  match q with
  | 0 => { b with lane0 := x }
  | 1 => { b with lane1 := x }
  | 2 => { b with lane2 := x }
  | 3 => { b with lane3 := x }

/-- The same thing for every lane. -/
def Lanes.all {α : Type} (x : α) : Lanes α := ⟨x, x, x, x⟩

/-- The bank lane by lane, lane 0 first. -/
def Lanes.toList {α : Type} (b : Lanes α) : List α := [b.lane0, b.lane1, b.lane2, b.lane3]

/-- A bank made by one function of each lane's thing. -/
def Lanes.map {α β : Type} (f : α → β) (b : Lanes α) : Lanes β :=
  ⟨f b.lane0, f b.lane1, f b.lane2, f b.lane3⟩

/-- The lanes in number order. -/
def allLanes : List LaneId := [0, 1, 2, 3]

/-- One thing for each of the ports A and B of a lane. -/
structure Ports (α : Type) where
  portA : α
  portB : α
  deriving DecidableEq, Repr

/-- The thing of port p. -/
def Ports.get {α : Type} (b : Ports α) (p : PortId) : α :=
  match p with
  | .a => b.portA
  | .b => b.portB

/-- The bank with the thing of port p replaced. -/
def Ports.set {α : Type} (b : Ports α) (p : PortId) (x : α) : Ports α :=
  match p with
  | .a => { b with portA := x }
  | .b => { b with portB := x }

/-- A bank made by one function of each port's thing. -/
def Ports.map {α β : Type} (f : α → β) (b : Ports α) : Ports β := ⟨f b.portA, f b.portB⟩

/-- The same thing for both ports. -/
def Ports.both {α : Type} (x : α) : Ports α := ⟨x, x⟩

end Sys2Proof.Machine
end

