-- ==== Sys2Proof/Machine/State.lean ====
section
/-!
DEFINITION. The state of the Hojra LC4, block by block as spec/00_scope.md section 3 lists the blocks, the reasons a
step can stop, and the state after reset. Plain data throughout.
-/

namespace Sys2Proof.Machine

/-! ## Reasons to stop -/

/-- The faults: none. The spec describes nothing that stops the part: a request in error is answered with a status
and changes nothing (R192), a bad frame is counted (R104, R199), an event that finds no room is counted (R7). No
command of this model faults. -/
inductive Fault where
  deriving DecidableEq, Repr

/-- The refusals. -/
inductive Refusal where
  /-- Raised by exec's arm of a command that has no meaning yet; no arm raises it now. Safe: the model stops where the
  part goes on. -/
  | notModelled (mnemonic : String)
  deriving DecidableEq, Repr

/-! ## Names (R202) -/

/-- Key-lock positions (R72). -/
inductive KeylockPos where
  | lock
  | sale
  | supervisor
  | service
  | unknown
  deriving DecidableEq, Repr

/-- Admission classes (R1, R4). -/
inductive EventClass where
  | critical
  | entry
  | scan
  | bulk
  deriving DecidableEq, Repr

/-- Event sources (R1). -/
inductive Source where
  | key
  | keylock
  | scanA
  | scanB
  | drawer
  | status
  deriving DecidableEq, Repr

/-- Kinds of KEY event (R1); `repeated` is REPEAT. -/
inductive KeyKind where
  | press
  | release
  | repeated
  | forcedRelease
  deriving DecidableEq, Repr

/-- Grades of a symbol (R127). -/
inductive Grade where
  | steady
  | burst
  | flood
  deriving DecidableEq, Repr

/-- Causes of OPENED (R143, R144). -/
inductive OpenCause where
  | commanded
  | uncommanded
  | beforeDrive
  deriving DecidableEq, Repr

/-- Reasons of ABANDONED (R148 to R150). -/
inductive AbandonReason where
  | queueTimeout
  | lockout
  | laneReset
  deriving DecidableEq, Repr

/-- Reasons of SCANNER_LOST (R91). -/
inductive LostReason where
  | misframes
  | excess
  | lineBreak
  | resync
  | disabled
  deriving DecidableEq, Repr

/-- Reasons of INTERLOCK_OFF (R160). -/
inductive OffReason where
  | matchEnded
  | released
  | disabled
  | rewritten
  deriving DecidableEq, Repr

/-- Reasons of ATTENDANT_OFF (R178). -/
inductive LeaveReason where
  | leaveRequest
  | laneReset
  deriving DecidableEq, Repr

/-- Status of a decode (R119 to R121). -/
inductive ValueStatus where
  | valid
  | checkFailed
  | malformed
  deriving DecidableEq, Repr

/-- Kinds of embedded value (R50). -/
inductive ValueKind where
  | price
  | weight
  | count
  deriving DecidableEq, Repr

/-- A level of an output or of a force (R161, R166). -/
inductive Level where
  | off
  | on
  deriving DecidableEq, Repr

/-- Statuses of a reply (R192). -/
inductive Status where
  | ok
  | adjusted
  | busy
  | badLane
  | badIndex
  | badArgument
  | unknownKind
  | disabled
  | privilege
  | interlocked
  | noResource
  | stillMatching
  | timeout
  | cancelled
  | overrun
  deriving DecidableEq, Repr

/-! ## Event Store (chapter 1) -/

/-- An embedded-value record (R121). -/
structure ValueRecord where
  status : ValueStatus
  kind : ValueKind
  decimals : Nat
  /-- The value, for VALID only. -/
  value : Option Nat
  /-- The item digits; none when absent. -/
  item : Option (List Byte)
  deriving DecidableEq, Repr

/-- Kind and payload of an event, by source (R1, R203). -/
inductive EventBody where
  | key (kind : KeyKind) (position : KeyPos) (code : Byte)
  | keylockPosition (position : KeylockPos)
  | keylockFault (prior : KeylockPos) (inputs : BitVec 4)
  | symbol (port : PortId) (symbology : Byte) (grade : Grade) (data : List Byte) (value : Option ValueRecord)
  | drawerOpened (cause : OpenCause)
  | drawerClosed (duration : Time)
  | drawerFailed
  | drawerLeftOpen
  | drawerAbandoned (reason : AbandonReason)
  | scannerLocked (port : PortId)
  | scannerLost (port : PortId) (reason : LostReason)
  | scannerExcess (port : PortId)
  | pacingOn (port : PortId)
  | pacingOff (port : PortId)
  | interlockOn (monitor : MonitorId)
  | interlockOff (monitor : MonitorId) (reason : OffReason)
  | attendantOn
  | attendantOff (reason : LeaveReason)
  deriving DecidableEq, Repr

/-- An event as it is offered to the Event Store: the fields of R1 that the source block and the Classification Table
fill in. -/
structure Event where
  lane : LaneId
  time : Time
  body : EventBody
  cls : EventClass
  keylock : KeylockPos
  tag : Option Half
  deriving DecidableEq, Repr

/-- An event record in a queue: the event with the fields the Event Store fills in at admission (R1, R2, R8). -/
structure EventRecord where
  event : Event
  sequence : Half
  lostBefore : Nat
  deriving DecidableEq, Repr

/-- A pending wait (R18), with whether the timeout asked for was clamped (R19). -/
structure Wait where
  tag : Byte
  sources : BitVec 6
  timeout : Nat
  clamped : Bool
  /-- The expiry, absent for a timeout of 0. -/
  expiry : Option Time
  deriving DecidableEq, Repr

/-- The queue counters of a lane (R26). -/
structure QueueCounters where
  admitted : Count
  fetched : Count
  flushed : Count
  evicted : Count
  lostEntry : Count
  lostScan : Count
  lostBulk : Count
  lostCritical : Count
  filtered : Count
  redirectedIn : Count
  deriving DecidableEq, Repr

/-- One lane's part of the Event Store. -/
structure LaneQueue where
  /-- Admission order, oldest first (R2). -/
  events : List EventRecord
  /-- L_q (R7). -/
  lost : Nat
  /-- The number the next admitted event will carry (R2). -/
  nextSequence : Half
  wait : Option Wait
  reserve : Nat
  watermark : Nat
  counters : QueueCounters
  deriving DecidableEq, Repr

/-- A limit for each limited class (R4). -/
structure ClassLimits where
  entry : Nat
  scan : Nat
  bulk : Nat
  deriving DecidableEq, Repr

/-- The Event Store. -/
structure EventStore where
  queues : Lanes LaneQueue
  laneLimits : ClassLimits
  sharedLimits : ClassLimits
  deriving DecidableEq, Repr

/-! ## Classification Table (chapter 2) -/

/-- The mode of an action (R36). -/
inductive ActionMode where
  | off
  | set
  | default
  deriving DecidableEq, Repr

/-- The ten field enables of a pattern (section 2.2), in the order of R204. -/
structure FieldEnables where
  lanes : Bool
  sources : Bool
  keylock : Bool
  privilege : Bool
  symbologies : Bool
  prefixes : Bool
  length : Bool
  grades : Bool
  keyCode : Bool
  transitions : Bool
  deriving DecidableEq, Repr

/-- The six action modes (R36), in the order of R204. -/
structure ActionModes where
  dispose : ActionMode
  cls : ActionMode
  tag : ActionMode
  decode : ActionMode
  signal : ActionMode
  count : ActionMode
  deriving DecidableEq, Repr

/-- A rule record (R204). The values are the bytes of the record, since the values of disabled fields and of actions
not in mode SET are kept as the request gave them (R46). -/
structure RuleRecord where
  enables : FieldEnables
  lanes : Byte
  sources : Byte
  keylock : Byte
  privilege : Byte
  symbologies : Half
  prefixLength : Byte
  prefixEntries : Vector Byte 8
  lengthMin : Byte
  lengthMax : Byte
  grades : Byte
  codeLow : Byte
  codeHigh : Byte
  transitions : Byte
  modes : ActionModes
  disposeValue : Byte
  redirectLane : Byte
  classValue : Byte
  tagValue : Half
  decodeProfile : Byte
  signalOutput : Byte
  signalPattern : Byte
  countIndex : Byte
  deriving DecidableEq, Repr

/-- An embedded-value profile (R50). -/
structure Profile where
  valueStart : Nat
  valueLength : Nat
  kind : ValueKind
  decimals : Nat
  checkPosition : Nat
  itemStart : Nat
  itemLength : Nat
  deriving DecidableEq, Repr

/-- The Classification Table; an absent rule is UNUSED (R29). -/
structure ClassTable where
  rules : Vector (Option RuleRecord) 64
  profiles : Vector Profile 8
  flow : Vector Count 32
  deriving DecidableEq, Repr

/-! ## Key Matrix Unit (chapter 3) -/

/-- A key-table entry (R57). -/
structure KeyEntry where
  code : Byte
  repeatable : Bool
  repeatRelease : Bool
  deriving DecidableEq, Repr

/-- A member of the reported-down set: the captured entry and the report time (R57, R61). -/
structure ReportedKey where
  position : KeyPos
  entry : KeyEntry
  reportTime : Time
  deriving DecidableEq, Repr

/-- A member of the ghost-blocked set (R59). -/
structure BlockedKey where
  position : KeyPos
  pressTime : Time
  deriving DecidableEq, Repr

/-- The typematic key and its next-repeat time (R65). -/
structure Typematic where
  position : KeyPos
  nextRepeat : Time
  deriving DecidableEq, Repr

/-- The nine settings of SET_KEYBOARD (R75). -/
structure KeyboardSettings where
  rows : Nat
  columns : Nat
  /-- The grain is 10 ms rather than 1 ms. -/
  grain10 : Bool
  debounceCount : Nat
  rolloverLimit : Nat
  typematicDelay : Nat
  typematicInterval : Nat
  keylockCount : Nat
  keylockFaultTime : Nat
  deriving DecidableEq, Repr

/-- The key lock of a lane (R71 to R73). -/
structure Keylock where
  position : KeylockPos
  previousRaw : Option (BitVec 4)
  debounced : Option (BitVec 4)
  rawChange : Time
  /-- The fault timer's start time while it runs. -/
  faultTimer : Option Time
  deriving DecidableEq, Repr

/-- The keyboard counters (R77). -/
structure KeyboardCounters where
  presses : Count
  ghostBlocks : Count
  rolloverHolds : Count
  muted : Count
  deriving DecidableEq, Repr

/-- The Key Matrix Unit of a lane. -/
structure Keyboard where
  settings : KeyboardSettings
  keyTable : Vector KeyEntry 128
  /-- Bit n set: position n is debounced down (R55). -/
  debounced : BitVec 128
  previousRaw : BitVec 128
  rawChange : Vector Time 128
  /-- The next sample is the first after an enable or a restart (R69). -/
  firstSample : Bool
  /-- The reported-down set, in ascending position order (log 21). -/
  reported : List ReportedKey
  /-- The rollover waiting list, oldest first (R62). -/
  waiting : List KeyPos
  /-- The ghost-blocked set, in the order of the press times, then of position (R64, log 21). -/
  blocked : List BlockedKey
  /-- The absorbed set: bit n set for position n. -/
  absorbed : BitVec 128
  typematic : Option Typematic
  keylock : Keylock
  counters : KeyboardCounters
  deriving DecidableEq, Repr

/-! ## Scanner Port (chapter 4) -/

/-- Scanner line rates (R79). -/
inductive LineRate where
  | r9600
  | r19200
  | r38400
  | r57600
  | r115200
  deriving DecidableEq, Repr

/-- Parity of a scanner line (R79). -/
inductive Parity where
  | none
  | even
  | odd
  deriving DecidableEq, Repr

/-- The line format: the first six rows of section 4.10. -/
structure LineFormat where
  rate : LineRate
  parity : Parity
  prefixOn : Bool
  prefixByte : Byte
  idOn : Bool
  lrcOn : Bool
  /-- The terminator has two bytes. -/
  twoByteTerminator : Bool
  terminator1 : Byte
  terminator2 : Byte
  deriving DecidableEq, Repr

/-- The line settings of a port (section 4.10). -/
structure LineSettings where
  format : LineFormat
  minData : Nat
  maxData : Nat
  gapLimit : Nat
  lockCount : Nat
  lossCount : Nat
  windowSeconds : Nat
  excessLimit : Nat
  rehunt : Bool
  deriving DecidableEq, Repr

/-- The framing position (R82). -/
inductive Framing where
  | aligned
  | skipping
  deriving DecidableEq, Repr

/-- The alignment state (R86). -/
inductive Alignment where
  | hunt
  | candidate
  | locked
  deriving DecidableEq, Repr

/-- A received byte with its error mark (R79). -/
structure RxByte where
  value : Byte
  error : Bool
  deriving DecidableEq, Repr

/-- A good frame: its id byte or none, its data, its time and its inhibit mark (R87). -/
structure GoodFrame where
  id : Option Byte
  data : List Byte
  time : Time
  inhibited : Bool
  deriving DecidableEq, Repr

/-- A running error window: its start and its length in seconds (R92). -/
structure ErrorWindow where
  start : Time
  seconds : Nat
  deriving DecidableEq, Repr

/-- An entry of the symbology id map (R101). -/
structure IdEntry where
  used : Bool
  id : Byte
  code : Byte
  deriving DecidableEq, Repr

/-- The port counters (R104), in the order of R195. -/
structure PortCounters where
  goodFrames : Count
  badPrefix : Count
  badLength : Count
  badCharset : Count
  badLrc : Count
  byteError : Count
  gap : Count
  overlength : Count
  checkFailures : Count
  lockLosses : Count
  excessEvents : Count
  heldDiscarded : Count
  inhibited : Count
  repeatsSuppressed : Count
  steady : Count
  burst : Count
  flood : Count
  deriving DecidableEq, Repr

/-- A Scanner Port (section 4.1). -/
structure ScannerPort where
  line : LineSettings
  receiverOn : Bool
  framing : Framing
  /-- ALIGNED: the bytes of the frame being received, first byte first. SKIPPING: the last byte of the skip, if any,
  which may be the first byte of a two-byte terminator (R82). -/
  bytes : List RxByte
  lastByte : Time
  /-- The minimum and maximum data length held when the frame being received began (R100). -/
  frameMin : Nat
  frameMax : Nat
  alignment : Alignment
  candidateCount : Nat
  /-- The candidate hold list, oldest first (R87). -/
  hold : List GoodFrame
  consecutiveBad : Nat
  window : Option ErrorWindow
  windowCount : Nat
  excessReported : Bool
  idMap : Vector IdEntry 16
  counters : PortCounters
  deriving DecidableEq, Repr

/-! ## Symbol Checker (chapter 5) -/

/-- A symbol handed down the scan path (R89). -/
structure Symbol where
  port : PortId
  frame : GoodFrame
  deriving DecidableEq, Repr

/-- An entry of the recent-symbol list (R112). -/
structure RecentEntry where
  code : Byte
  data : List Byte
  time : Time
  deriving DecidableEq, Repr

/-- The Symbol Checker of a lane. -/
structure Checker where
  /-- The recent-symbol list, oldest refresh first (R112). -/
  recent : List RecentEntry
  holdTime : Nat
  /-- The check set of each port: bit n for symbology code n (R122, R202). -/
  checks : Ports Half
  /-- The symbols handed on by the ports and not yet taken, in hand-on order (R106, log 12). -/
  inbox : List Symbol
  deriving DecidableEq, Repr

/-! ## Scan Meter (chapter 6) -/

/-- The pacing state (R128). -/
inductive Pacing where
  | idle
  | holding (release : Time)
  deriving DecidableEq, Repr

/-- A Scan Meter (section 6.1); buckets in milli-scans. -/
structure Meter where
  rate : Nat
  steadyCapacity : Nat
  burstCapacity : Nat
  pacingOn : Bool
  releaseLevel : Nat
  steady : Nat
  burst : Nat
  lastArrival : Time
  pacing : Pacing
  deriving DecidableEq, Repr

/-! ## Drawer Controller and Drive Supply Arbiter (chapter 7) -/

/-- The drawer state with what is present in it (section 7.1); `opened` is OPEN. -/
inductive DrawerState where
  | closed
  | queued (expiry : Time)
  | driving (pulseEnd : Time)
  | confirming (expiry : Time)
  | opened (start : Time) (alarm : Option Time) (alarmed : Bool)
  deriving DecidableEq, Repr

/-- The six settings of SET_DRAWER (R154). -/
structure DrawerSettings where
  pulseWidth : Nat
  confirmTimeout : Nat
  leftOpenAlarm : Nat
  cooldown : Nat
  queueTimeout : Nat
  senseCount : Nat
  deriving DecidableEq, Repr

/-- The drawer counters (R155). -/
structure DrawerCounters where
  opensCommanded : Count
  opensUncommanded : Count
  opensFailed : Count
  leftOpen : Count
  abandoned : Count
  deriving DecidableEq, Repr

/-- The Drawer Controller of a lane. -/
structure Drawer where
  state : DrawerState
  cooldownEnd : Option Time
  fault : Bool
  /-- The debounced sense value and the previous raw value; true is open (R136). -/
  senseOpen : Bool
  senseRaw : Bool
  senseChange : Time
  settings : DrawerSettings
  counters : DrawerCounters
  deriving DecidableEq, Repr

/-- The Drive Supply Arbiter (R139). -/
structure Arbiter where
  slot1 : Option LaneId
  slot2 : Option LaneId
  /-- Oldest first. -/
  waiting : List LaneId
  deriving DecidableEq, Repr

/-! ## Interlock Monitors (chapter 8) -/

/-- The conditions a monitor can watch (R157). -/
inductive Condition where
  | drawerOpen
  | drawerFault
  | keylockIs
  | scannerNotLocked
  | queueAtLeast
  | pacing
  deriving DecidableEq, Repr

/-- The settings of a monitor (section 8.1). The parameters of the conditions are held as the request gave them, since
those of conditions not named are stored untested (R163). -/
structure MonitorSettings where
  enabled : Bool
  sourceLane : LaneId
  condition : Condition
  keylockParam : Byte
  portParam : Byte
  queueParam : Nat
  /-- The sense is TRUE. -/
  sense : Bool
  qualify : Nat
  latched : Bool
  /-- Target lanes: bit n for lane n. -/
  targets : BitVec 4
  /-- Effects: MUTE_KEYS bit 0, INHIBIT_A bit 1, INHIBIT_B bit 2, DRAWER_LOCKOUT bit 3, LAMP force bit 4,
  TONE force bit 5 (R202). -/
  effects : BitVec 6
  lampLevel : Level
  toneLevel : Level
  deriving DecidableEq, Repr

/-- The state of a monitor (R158). -/
inductive MonitorState where
  | inactive
  | qualifying (start : Time)
  | active
  deriving DecidableEq, Repr

/-- An Interlock Monitor. -/
structure Monitor where
  settings : MonitorSettings
  isMatch : Bool
  state : MonitorState
  deriving DecidableEq, Repr

/-- The four effect conditions of a lane (R161). -/
structure EffectConditions where
  muted : Bool
  lockedOut : Bool
  inhibitA : Bool
  inhibitB : Bool
  deriving DecidableEq, Repr

/-- The Interlock Monitors and the effect conditions they keep. -/
structure Interlocks where
  monitors : Vector Monitor 8
  conditions : Lanes EffectConditions
  deriving DecidableEq, Repr

/-! ## Lane Output Unit (sections 8.5, 8.6) -/

/-- A step of a signal pattern: a level and a duration in units of 10 ms (R168). -/
structure PatternStep where
  level : Level
  duration : Nat
  deriving DecidableEq, Repr

/-- A signal pattern (R168). -/
structure Pattern where
  count : Nat
  steps : Vector PatternStep 4
  deriving DecidableEq, Repr

/-- The host value of LAMP or TONE (section 8.5). -/
inductive HostValue where
  | off
  | on
  | blink (start : Time)
  deriving DecidableEq, Repr

/-- A running signal pattern: the copied steps from the one being played on, and the end time of that one (R168). -/
structure Playing where
  current : PatternStep
  rest : List PatternStep
  endTime : Time
  deriving DecidableEq, Repr

/-- LAMP or TONE of a lane. -/
structure SignalOutput where
  host : HostValue
  playing : Option Playing
  level : Level
  deriving DecidableEq, Repr

/-- An inhibit output of a lane. -/
structure InhibitOutput where
  host : Level
  level : Level
  deriving DecidableEq, Repr

/-- The Lane Output Unit of a lane. -/
structure LaneOutputs where
  lamp : SignalOutput
  tone : SignalOutput
  inhibits : Ports InhibitOutput
  deriving DecidableEq, Repr

/-! ## Lane Mode Unit (chapter 9) -/

/-- An enable set (R173). -/
structure EnableSet where
  keyboard : Bool
  scanA : Bool
  scanB : Bool
  drawer : Bool
  deriving DecidableEq, Repr

/-- The Lane Mode Unit of a lane (R173). -/
structure LaneMode where
  current : EnableSet
  saved : EnableSet
  attendantSet : EnableSet
  attendant : Bool
  deriving DecidableEq, Repr

/-! ## Link Controller (chapter 10) -/

/-- The cause of a part reset (R194, R197). -/
inductive ResetCause where
  | power
  | pin
  | request
  deriving DecidableEq, Repr

/-- The receiver (R187), turned off by RESET_PART (R198). -/
inductive Receiver where
  | off
  | hunting
  /-- The bytes of the frame after the start byte, and the time of the frame's last byte. -/
  | inFrame (bytes : List Byte) (last : Time)
  deriving DecidableEq, Repr

/-- A checked request frame (R185). -/
structure RequestFrame where
  tag : Byte
  kind : Byte
  body : List Byte
  deriving DecidableEq, Repr

/-- Why a message was made (R190): the reply to the request taken last, an OVERRUN reply, the reply to a deferred
AWAIT, a CANCELLED reply of RESET_PART, or a notice. -/
inductive Origin where
  | taken
  | overrun
  | deferred
  | cancelled
  | started
  | ready
  deriving DecidableEq, Repr

/-- A message of the transmit path (R190). -/
structure Message where
  tag : Byte
  kind : Byte
  body : List Byte
  origin : Origin
  deriving DecidableEq, Repr

/-- The link counters (R199). -/
structure LinkCounters where
  goodFrames : Count
  badCrc : Count
  gap : Count
  overrun : Count
  unknownKind : Count
  deriving DecidableEq, Repr

/-- The Link Controller. -/
structure Link where
  rateCode : BitVec 2
  cause : ResetCause
  receiver : Receiver
  /-- The receive buffer, oldest first (R188). -/
  buffer : List RequestFrame
  /-- The transmit path, oldest first; the first message is the one being sent (R190). -/
  transmit : List Message
  /-- The READY-pending set: bit n for lane n (R191). -/
  readyPending : BitVec 4
  /-- RESET_PART has been taken and the reset waits for the transmit path to drain (R198). -/
  resetting : Bool
  counters : LinkCounters
  /-- The bytes of the frame last put whole on the host line (log 18). -/
  hostLine : List Byte
  deriving DecidableEq, Repr

/-! ## The part -/

/-- The state of the part, and the queue of the commands that wait. -/
structure State where
  /-- Part time (R193). -/
  time : Time
  link : Link
  store : EventStore
  table : ClassTable
  keyboards : Lanes Keyboard
  scanners : Lanes (Ports ScannerPort)
  checkers : Lanes Checker
  meters : Lanes (Ports Meter)
  drawers : Lanes Drawer
  arbiter : Arbiter
  interlocks : Interlocks
  outputs : Lanes LaneOutputs
  /-- The part-wide signal patterns (R168). -/
  patterns : Vector Pattern 8
  modes : Lanes LaneMode
  /-- The model's own: how many free orders have been taken (log 5). -/
  freeIndex : Nat
  /-- The commands that wait, first in first out. -/
  pending : List Instr
  deriving DecidableEq, Repr

/-! ## Reset values -/

/-- R27. -/
def QueueCounters.zero : QueueCounters := ⟨0, 0, 0, 0, 0, 0, 0, 0, 0, 0⟩

/-- R27. -/
def LaneQueue.reset : LaneQueue :=
  { events := [], lost := 0, nextSequence := 0, wait := none, reserve := 16, watermark := 48,
    counters := QueueCounters.zero }

/-- R27. -/
def EventStore.reset : EventStore :=
  { queues := Lanes.all LaneQueue.reset,
    laneLimits := { entry := 96, scan := 64, bulk := 32 },
    sharedLimits := { entry := 176, scan := 160, bulk := 128 } }

/-- R52. -/
def Profile.reset : Profile :=
  { valueStart := 1, valueLength := 0, kind := .price, decimals := 0, checkPosition := 0, itemStart := 1,
    itemLength := 0 }

/-- R52. -/
def ClassTable.reset : ClassTable :=
  { rules := Vector.replicate 64 none, profiles := Vector.replicate 8 Profile.reset,
    flow := Vector.replicate 32 0 }

/-- R57, R78. -/
def KeyEntry.reset : KeyEntry := ⟨0, false, false⟩

/-- R75, R78. -/
def KeyboardSettings.reset : KeyboardSettings :=
  { rows := 8, columns := 16, grain10 := false, debounceCount := 10, rolloverLimit := 6, typematicDelay := 500,
    typematicInterval := 100, keylockCount := 5, keylockFaultTime := 500 }

/-- R78. -/
def Keylock.reset : Keylock :=
  { position := .unknown, previousRaw := none, debounced := none, rawChange := 0, faultTimer := none }

/-- R77, R78. -/
def KeyboardCounters.zero : KeyboardCounters := ⟨0, 0, 0, 0⟩

/-- R78. The raw values and raw-change times are discarded; they read 0 (log 9). -/
def Keyboard.reset : Keyboard :=
  { settings := KeyboardSettings.reset, keyTable := Vector.replicate 128 KeyEntry.reset, debounced := 0,
    previousRaw := 0, rawChange := Vector.replicate 128 0, firstSample := false, reported := [], waiting := [],
    blocked := [], absorbed := 0, typematic := none, keylock := Keylock.reset, counters := KeyboardCounters.zero }

/-- Section 4.10, R105. -/
def LineSettings.reset : LineSettings :=
  { format :=
      { rate := .r9600, parity := .none, prefixOn := false, prefixByte := 0x02, idOn := false, lrcOn := false,
        twoByteTerminator := false, terminator1 := 0x0D, terminator2 := 0x0A },
    minData := 1, maxData := 48, gapLimit := 50, lockCount := 2, lossCount := 3, windowSeconds := 10,
    excessLimit := 8, rehunt := true }

/-- R104, R105. -/
def PortCounters.zero : PortCounters := ⟨0, 0, 0, 0, 0, 0, 0, 0, 0, 0, 0, 0, 0, 0, 0, 0, 0⟩

/-- An unused id-map entry (R101, R102). -/
def IdEntry.unused : IdEntry := ⟨false, 0, 0⟩

/-- R105; the last-byte time and the frame's lengths have no reset value in the spec (log 9). -/
def ScannerPort.reset : ScannerPort :=
  { line := LineSettings.reset, receiverOn := false, framing := .skipping, bytes := [], lastByte := 0, frameMin := 1,
    frameMax := 48, alignment := .hunt, candidateCount := 0, hold := [], consecutiveBad := 0, window := none,
    windowCount := 0, excessReported := false, idMap := Vector.replicate 16 IdEntry.unused,
    counters := PortCounters.zero }

/-- The check set of EAN13, EAN8 and UPCA: codes 1, 2 and 3 (R108, R202). -/
def fullCheckSet : Half := 0x000E

/-- R124. -/
def Checker.reset : Checker :=
  { recent := [], holdTime := 500, checks := Ports.both fullCheckSet, inbox := [] }

/-- R134. -/
def Meter.reset : Meter :=
  { rate := 8, steadyCapacity := 4, burstCapacity := 4, pacingOn := false, releaseLevel := 2, steady := 4000,
    burst := 4000, lastArrival := 0, pacing := .idle }

/-- R155, R156. -/
def DrawerCounters.zero : DrawerCounters := ⟨0, 0, 0, 0, 0⟩

/-- R156. -/
def Drawer.reset : Drawer :=
  { state := .closed, cooldownEnd := none, fault := false, senseOpen := false, senseRaw := false, senseChange := 0,
    settings :=
      { pulseWidth := 80, confirmTimeout := 1000, leftOpenAlarm := 60, cooldown := 500, queueTimeout := 2000,
        senseCount := 3 },
    counters := DrawerCounters.zero }

/-- R156. -/
def Arbiter.reset : Arbiter := ⟨none, none, []⟩

/-- Section 8.1, R172; the parameters and force levels have no reset value in the spec (log 9). -/
def Monitor.reset : Monitor :=
  { settings :=
      { enabled := false, sourceLane := 0, condition := .drawerOpen, keylockParam := 0, portParam := 0,
        queueParam := 0, sense := true, qualify := 0, latched := false, targets := 0, effects := 0, lampLevel := .off,
        toneLevel := .off },
    isMatch := false, state := .inactive }

/-- R172. -/
def EffectConditions.none : EffectConditions := ⟨false, false, false, false⟩

/-- R172. -/
def Interlocks.reset : Interlocks :=
  { monitors := Vector.replicate 8 Monitor.reset, conditions := Lanes.all EffectConditions.none }

/-- R172: the inhibits are ON, since every port enable is off. -/
def LaneOutputs.reset : LaneOutputs :=
  { lamp := ⟨.off, none, .off⟩, tone := ⟨.off, none, .off⟩, inhibits := Ports.both ⟨.off, .on⟩ }

/-- R172. -/
def Pattern.reset : Pattern := { count := 0, steps := Vector.replicate 4 ⟨.off, 1⟩ }

/-- The empty enable set (R183). -/
def EnableSet.empty : EnableSet := ⟨false, false, false, false⟩

/-- R183. -/
def LaneMode.reset : LaneMode := ⟨EnableSet.empty, EnableSet.empty, EnableSet.empty, false⟩

/-- The code of a reset cause (R201). -/
def ResetCause.code : ResetCause → Byte
  | .power => 0
  | .pin => 1
  | .request => 2

/-- The STARTED notice (R197, R201): tag 0, kind 0xF0, the cause and the part revision. -/
def startedNotice (cause : ResetCause) : Message :=
  { tag := 0, kind := 0xF0, body := [cause.code, BitVec.ofNat 8 Config.revision], origin := .started }

/-- R199. -/
def LinkCounters.zero : LinkCounters := ⟨0, 0, 0, 0, 0⟩

/-- R197. -/
def Link.afterReset (cause : ResetCause) (straps : BitVec 2) : Link :=
  { rateCode := straps, cause := cause, receiver := .hunting, buffer := [], transmit := [startedNotice cause],
    readyPending := 0, resetting := false, counters := LinkCounters.zero, hostLine := [] }

/-- The part right after a part reset of the given cause, with the straps as they read then (R197); the queue of
commands is empty and no free order has been taken. -/
def State.afterReset (cause : ResetCause) (straps : BitVec 2) : State :=
  { time := 0, link := Link.afterReset cause straps, store := EventStore.reset, table := ClassTable.reset,
    keyboards := Lanes.all Keyboard.reset, scanners := Lanes.all (Ports.both ScannerPort.reset),
    checkers := Lanes.all Checker.reset, meters := Lanes.all (Ports.both Meter.reset),
    drawers := Lanes.all Drawer.reset, arbiter := Arbiter.reset, interlocks := Interlocks.reset,
    outputs := Lanes.all LaneOutputs.reset, patterns := Vector.replicate 8 Pattern.reset,
    modes := Lanes.all LaneMode.reset, freeIndex := 0, pending := [] }

/-- The machine right after reset: a power-on reset with both straps 0 (log 7). -/
def State.reset : State := State.afterReset .power 0

end Sys2Proof.Machine
end

