-- ==== Sys2Proof/Machine/Flags.lean ====
section
/-!
DEFINITION. The small computations every block shares: elapsed time and timers (00_scope 5.2, R193), saturating counts
(R7, R9), clamping and the status it gives (00_scope 5.4, R192), tests of masks and flags (R200), the frame check
(R186) and the LRC (R85).
-/

namespace Sys2Proof.Machine

/-! ## Time -/

/-- The time from `since` to `now`, modulo 2^32 (00_scope 5.2). -/
def elapsed (now since : Time) : Nat := (now - since).toNat

/-- Part time has reached t: every timer is shorter than half the wrap (R193), so a time counts as reached from its
moment until half a wrap later. -/
def reached (now t : Time) : Bool := decide (elapsed now t < 2 ^ 31)

/-- The part time n milliseconds after t, modulo 2^32. -/
def after (t : Time) (n : Nat) : Time := t + BitVec.ofNat 32 n

/-! ## Counts -/

/-- A sum that saturates at 65535 (R7, R9). -/
def satAdd (a b : Nat) : Nat := min 65535 (a + b)

/-! ## Settings -/

/-- The value in the range lo to hi nearest to v (00_scope 5.4). -/
def clamp (lo hi v : Nat) : Nat := max lo (min hi v)

/-- The status of a request carried out: ADJUSTED when a value was clamped (R192). -/
def carriedOut (unchanged : Bool) : Status := if unchanged then .ok else .adjusted

/-! ## Masks and flags -/

/-- The mask has no bit set for a member beyond the first n (R200). -/
def maskHas (n : Nat) (m : Byte) : Bool := decide (m.toNat < 2 ^ n)

/-- A flag byte is 0 or 1 (R200). -/
def isFlag (b : Byte) : Bool := decide (b.toNat < 2)

/-- The flag a byte holds. -/
def flagOf (b : Byte) : Bool := decide (b ≠ 0)

/-- The byte of a flag (R200). -/
def flagByte (b : Bool) : Byte := if b then 1 else 0

/-! ## Checks -/

/-- One bit of the frame check: shift left, and combine 0x1021 when the bit shifted out differs from the data bit
(R186). -/
def crcBit (rem : Half) (bit : Bool) : Half :=
  if rem.msb != bit then (rem <<< 1) ^^^ 0x1021 else rem <<< 1

/-- One byte of the frame check, most significant bit first (R186). -/
def crcByte (rem : Half) (b : Byte) : Half :=
  [7, 6, 5, 4, 3, 2, 1, 0].foldl (fun r i => crcBit r (b.getLsbD i)) rem

/-- The frame check of a run of bytes (R186). -/
def crc16 (bytes : List Byte) : Half := bytes.foldl crcByte 0xFFFF

/-- The exclusive OR of a run of bytes (R85). -/
def xorAll (bytes : List Byte) : Byte := bytes.foldl (· ^^^ ·) 0

/-- The number of ones of a byte is odd. -/
def oddOnes (b : Byte) : Bool :=
  [0, 1, 2, 3, 4, 5, 6, 7].foldl (fun acc i => acc != b.getLsbD i) false

/-! ## Free orders (log 5) -/

/-- Put a at place n of a list, or at its end if the list is shorter. -/
def insertAt {α : Type} : Nat → α → List α → List α
  | 0, a, l => a :: l
  | _ + 1, a, [] => [a]
  | n + 1, a, x :: l => x :: insertAt n a l

/-- A reordering of the list, chosen by a number: every reordering is chosen by some number. A list of at most one
member is left as it is without looking at the number. -/
def arrange {α : Type} (choice : Nat) : List α → List α
  | [] => []
  | [a] => [a]
  | a :: b :: l => insertAt (choice % (l.length + 2)) a (arrange (choice / (l.length + 2)) (b :: l))

end Sys2Proof.Machine
end

