-- ==== Sys2Proof/Machine/Operands.lean ====
section
/-!
DEFINITION. Every field form of the link: how fields are read from a request body and written into a reply (R200), the
codes of statuses, kinds and enumerations (R202), and the layouts of the records that cross the link (R203 to R206).
-/

namespace Sys2Proof.Machine

/-! ## Fields (R200) -/

/-- The byte at an offset; 0 where the body does not hold it. -/
def byteAt (b : List Byte) (i : Nat) : Byte := b.getD i 0

/-- The two-byte field at an offset, high byte first. -/
def halfAt (b : List Byte) (i : Nat) : Half := byteAt b i ++ byteAt b (i + 1)

/-- The four-byte field at an offset, high byte first. -/
def wordAt (b : List Byte) (i : Nat) : BitVec 32 := halfAt b i ++ halfAt b (i + 2)

/-- The number of the byte at an offset. -/
def natAt (b : List Byte) (i : Nat) : Nat := (byteAt b i).toNat

/-- The number of the two-byte field at an offset. -/
def nat2At (b : List Byte) (i : Nat) : Nat := (halfAt b i).toNat

/-- One byte of a number that fits one byte. -/
def num1 (n : Nat) : List Byte := [BitVec.ofNat 8 n]

/-- Two bytes, high byte first. -/
def halfBytes (h : Half) : List Byte := [h.extractLsb' 8 8, h.extractLsb' 0 8]

/-- A number in two bytes. -/
def num2 (n : Nat) : List Byte := halfBytes (BitVec.ofNat 16 n)

/-- Four bytes, high byte first. -/
def wordBytes (w : BitVec 32) : List Byte :=
  [w.extractLsb' 24 8, w.extractLsb' 16 8, w.extractLsb' 8 8, w.extractLsb' 0 8]

/-- A number in four bytes. -/
def num4 (n : Nat) : List Byte := wordBytes (BitVec.ofNat 32 n)

/-- The lane a byte names; none above 3. -/
def laneOf (b : Byte) : Option LaneId := if h : b.toNat < 4 then some ⟨b.toNat, h⟩ else none

/-- The byte of a lane. -/
def laneByte (q : LaneId) : Byte := BitVec.ofNat 8 q.val

/-- The port a byte names: A 0, B 1. -/
def portOf (b : Byte) : Option PortId := if b = 0 then some .a else if b = 1 then some .b else none

/-! ## Codes (R202) -/

/-- The byte of a port. -/
def portByte : PortId → Byte
  | .a => 0
  | .b => 1

def Status.code : Status → Byte
  | .ok => 0
  | .adjusted => 1
  | .busy => 2
  | .badLane => 3
  | .badIndex => 4
  | .badArgument => 5
  | .unknownKind => 6
  | .disabled => 7
  | .privilege => 8
  | .interlocked => 9
  | .noResource => 10
  | .stillMatching => 11
  | .timeout => 12
  | .cancelled => 13
  | .overrun => 14

def Source.index : Source → Nat
  | .key => 0
  | .keylock => 1
  | .scanA => 2
  | .scanB => 3
  | .drawer => 4
  | .status => 5

def KeyKind.index : KeyKind → Nat
  | .press => 0
  | .release => 1
  | .repeated => 2
  | .forcedRelease => 3

def KeylockPos.index : KeylockPos → Nat
  | .lock => 0
  | .sale => 1
  | .supervisor => 2
  | .service => 3
  | .unknown => 4

def Grade.index : Grade → Nat
  | .steady => 0
  | .burst => 1
  | .flood => 2

def EventClass.code : EventClass → Byte
  | .critical => 0
  | .entry => 1
  | .scan => 2
  | .bulk => 3

def OpenCause.code : OpenCause → Byte
  | .commanded => 0
  | .uncommanded => 1
  | .beforeDrive => 2

def AbandonReason.code : AbandonReason → Byte
  | .queueTimeout => 0
  | .lockout => 1
  | .laneReset => 2

/-- The status reason of a SCANNER_LOST. -/
def LostReason.code : LostReason → Byte
  | .misframes => 1
  | .excess => 2
  | .lineBreak => 3
  | .resync => 4
  | .disabled => 5

/-- The status reason of an INTERLOCK_OFF. -/
def OffReason.code : OffReason → Byte
  | .disabled => 5
  | .matchEnded => 6
  | .released => 7
  | .rewritten => 8

/-- The status reason of an ATTENDANT_OFF. -/
def LeaveReason.code : LeaveReason → Byte
  | .leaveRequest => 9
  | .laneReset => 10

def ValueStatus.code : ValueStatus → Byte
  | .valid => 0
  | .checkFailed => 1
  | .malformed => 2

def ValueKind.code : ValueKind → Byte
  | .price => 0
  | .weight => 1
  | .count => 2

def valueKindOf (b : Byte) : Option ValueKind :=
  if b = 0 then some .price else if b = 1 then some .weight else if b = 2 then some .count else none

def Level.code : Level → Byte
  | .off => 0
  | .on => 1

def levelOf (b : Byte) : Option Level := if b = 0 then some .off else if b = 1 then some .on else none

def Alignment.code : Alignment → Byte
  | .hunt => 0
  | .candidate => 1
  | .locked => 2

def Pacing.code : Pacing → Byte
  | .idle => 0
  | .holding _ => 1

def DrawerState.code : DrawerState → Byte
  | .closed => 0
  | .queued _ => 1
  | .driving _ => 2
  | .confirming _ => 3
  | .opened _ _ _ => 4

def ActionMode.code : ActionMode → Byte
  | .off => 0
  | .set => 1
  | .default => 2

def actionModeOf (b : Byte) : Option ActionMode :=
  if b = 0 then some .off else if b = 1 then some .set else if b = 2 then some .default else none

def MonitorState.code : MonitorState → Byte
  | .inactive => 0
  | .qualifying _ => 1
  | .active => 2

def Condition.code : Condition → Byte
  | .drawerOpen => 0
  | .drawerFault => 1
  | .keylockIs => 2
  | .scannerNotLocked => 3
  | .queueAtLeast => 4
  | .pacing => 5

def conditionOf (b : Byte) : Option Condition :=
  if b = 0 then some .drawerOpen
  else if b = 1 then some .drawerFault
  else if b = 2 then some .keylockIs
  else if b = 3 then some .scannerNotLocked
  else if b = 4 then some .queueAtLeast
  else if b = 5 then some .pacing
  else none

def LineRate.code : LineRate → Byte
  | .r9600 => 0
  | .r19200 => 1
  | .r38400 => 2
  | .r57600 => 3
  | .r115200 => 4

def lineRateOf (b : Byte) : Option LineRate :=
  if b = 0 then some .r9600
  else if b = 1 then some .r19200
  else if b = 2 then some .r38400
  else if b = 3 then some .r57600
  else if b = 4 then some .r115200
  else none

def Parity.code : Parity → Byte
  | .none => 0
  | .even => 1
  | .odd => 2

def parityOf (b : Byte) : Option Parity :=
  if b = 0 then some .none else if b = 1 then some .even else if b = 2 then some .odd else none

/-- The mask of an enable set: KEYBOARD bit 0, SCAN_A bit 1, SCAN_B bit 2, DRAWER bit 3. -/
def EnableSet.mask (e : EnableSet) : Byte :=
  (if e.keyboard then 1 else 0) ||| (if e.scanA then 2 else 0) ||| (if e.scanB then 4 else 0) |||
    (if e.drawer then 8 else 0)

/-- The enable set of a mask. -/
def enableSetOf (m : Byte) : EnableSet := ⟨m.getLsbD 0, m.getLsbD 1, m.getLsbD 2, m.getLsbD 3⟩

/-! ## Request and message kinds (R201, R202) -/

/-- The kind of every reply frame. -/
def kindReply : Byte := 0x80

/-- The kind of a READY notice. -/
def kindReady : Byte := 0xF1

/-! ## The source and kind of an event (R1) -/

/-- The source of an event body. -/
def EventBody.source : EventBody → Source
  | .key _ _ _ => .key
  | .keylockPosition _ => .keylock
  | .keylockFault _ _ => .keylock
  | .symbol .a _ _ _ _ => .scanA
  | .symbol .b _ _ _ _ => .scanB
  | .drawerOpened _ => .drawer
  | .drawerClosed _ => .drawer
  | .drawerFailed => .drawer
  | .drawerLeftOpen => .drawer
  | .drawerAbandoned _ => .drawer
  | .scannerLocked _ => .status
  | .scannerLost _ _ => .status
  | .scannerExcess _ => .status
  | .pacingOn _ => .status
  | .pacingOff _ => .status
  | .interlockOn _ => .status
  | .interlockOff _ _ => .status
  | .attendantOn => .status
  | .attendantOff _ => .status

/-- The kind code of an event body within its source. -/
def EventBody.kindCode : EventBody → Byte
  | .key k _ _ => BitVec.ofNat 8 k.index
  | .keylockPosition _ => 0
  | .keylockFault _ _ => 1
  | .symbol _ _ _ _ _ => 0
  | .drawerOpened _ => 0
  | .drawerClosed _ => 1
  | .drawerFailed => 2
  | .drawerLeftOpen => 3
  | .drawerAbandoned _ => 4
  | .scannerLocked _ => 0
  | .scannerLost _ _ => 1
  | .scannerExcess _ => 2
  | .pacingOn _ => 3
  | .pacingOff _ => 4
  | .interlockOn _ => 5
  | .interlockOff _ _ => 6
  | .attendantOn => 7
  | .attendantOff _ => 8

/-! ## The event record (R203) -/

/-- The embedded-value record. -/
def ValueRecord.bytes (v : ValueRecord) : List Byte :=
  [v.status.code, v.kind.code] ++ num1 v.decimals ++ num4 (v.value.getD 0) ++
    num1 (v.item.getD []).length ++ v.item.getD []

/-- The payload of an event, from offset 17 of its record. -/
def EventBody.payload : EventBody → List Byte
  | .key _ p c => num1 p.val ++ [c]
  | .keylockPosition p => num1 p.index ++ [0]
  | .keylockFault p i => num1 p.index ++ [i.setWidth 8]
  | .symbol p code g d v =>
    [portByte p, code] ++ num1 g.index ++ num1 d.length ++ d ++
      (match v with
       | some r => r.bytes
       | none => [])
  | .drawerOpened c => [c.code] ++ num4 0
  | .drawerClosed t => [0] ++ wordBytes t
  | .drawerFailed => [0] ++ num4 0
  | .drawerLeftOpen => [0] ++ num4 0
  | .drawerAbandoned r => [r.code] ++ num4 0
  | .scannerLocked p => [portByte p, 0]
  | .scannerLost p r => [portByte p, r.code]
  | .scannerExcess p => [portByte p, 0]
  | .pacingOn p => [portByte p, 0]
  | .pacingOff p => [portByte p, 0]
  | .interlockOn m => num1 m.val ++ [0]
  | .interlockOff m r => num1 m.val ++ [r.code]
  | .attendantOn => [0, 0]
  | .attendantOff r => [0, r.code]

/-- The payload holds an embedded-value record. -/
def EventBody.hasValue : EventBody → Bool
  | .symbol _ _ _ _ (some _) => true
  | _ => false

/-- The flags byte of a record: bit 0 for a tag, bit 1 for an embedded-value record. -/
def Event.flags (e : Event) : Byte := (if e.tag.isSome then 1 else 0) ||| (if e.body.hasValue then 2 else 0)

/-- The length of a record, itself included. -/
def EventRecord.size (r : EventRecord) : Nat := 17 + r.event.body.payload.length

/-- The bytes of a record. -/
def EventRecord.bytes (r : EventRecord) : List Byte :=
  num1 r.size ++ [laneByte r.event.lane] ++ halfBytes r.sequence ++ wordBytes r.event.time ++
    num1 r.event.body.source.index ++ [r.event.body.kindCode, r.event.cls.code] ++ num1 r.event.keylock.index ++
    [r.event.flags] ++ halfBytes (r.event.tag.getD 0) ++ num2 r.lostBefore ++ r.event.body.payload

/-! ## The rule record (R204) -/

/-- The ten field enables as bytes. -/
def FieldEnables.bytes (e : FieldEnables) : List Byte :=
  [e.lanes, e.sources, e.keylock, e.privilege, e.symbologies, e.prefixes, e.length, e.grades, e.keyCode,
    e.transitions].map flagByte

/-- The six action modes as bytes. -/
def ActionModes.bytes (m : ActionModes) : List Byte :=
  [m.dispose, m.cls, m.tag, m.decode, m.signal, m.count].map ActionMode.code

/-- The 46 bytes of a rule record. -/
def RuleRecord.bytes (r : RuleRecord) : List Byte :=
  r.enables.bytes ++ [r.lanes, r.sources, r.keylock, r.privilege] ++ halfBytes r.symbologies ++ [r.prefixLength] ++
    r.prefixEntries.toList ++ [r.lengthMin, r.lengthMax, r.grades, r.codeLow, r.codeHigh, r.transitions] ++
    r.modes.bytes ++ [r.disposeValue, r.redirectLane, r.classValue] ++ halfBytes r.tagValue ++
    [r.decodeProfile, r.signalOutput, r.signalPattern, r.countIndex]

/-- The field enables from offset o of a body; none where an enable is neither DISABLED nor ENABLED. -/
def fieldEnablesAt (b : List Byte) (o : Nat) : Option FieldEnables :=
  if (List.range 10).all fun i => isFlag (byteAt b (o + i)) then
    some
      { lanes := flagOf (byteAt b o), sources := flagOf (byteAt b (o + 1)), keylock := flagOf (byteAt b (o + 2)),
        privilege := flagOf (byteAt b (o + 3)), symbologies := flagOf (byteAt b (o + 4)),
        prefixes := flagOf (byteAt b (o + 5)), length := flagOf (byteAt b (o + 6)),
        grades := flagOf (byteAt b (o + 7)), keyCode := flagOf (byteAt b (o + 8)),
        transitions := flagOf (byteAt b (o + 9)) }
  else none

/-- The action modes from offset o of a body; none where a mode does not exist. -/
def actionModesAt (b : List Byte) (o : Nat) : Option ActionModes :=
  match actionModeOf (byteAt b o), actionModeOf (byteAt b (o + 1)), actionModeOf (byteAt b (o + 2)),
    actionModeOf (byteAt b (o + 3)), actionModeOf (byteAt b (o + 4)), actionModeOf (byteAt b (o + 5)) with
  | some d, some c, some t, some e, some s, some n => some ⟨d, c, t, e, s, n⟩
  | _, _, _, _, _, _ => none

/-- The rule record from offset o of a body; none where an enable or a mode does not exist. -/
def ruleRecordAt (b : List Byte) (o : Nat) : Option RuleRecord :=
  match fieldEnablesAt b o, actionModesAt b (o + 31) with
  | some e, some m =>
    some
      { enables := e, lanes := byteAt b (o + 10), sources := byteAt b (o + 11), keylock := byteAt b (o + 12),
        privilege := byteAt b (o + 13), symbologies := halfAt b (o + 14), prefixLength := byteAt b (o + 16),
        prefixEntries :=
          #v[byteAt b (o + 17), byteAt b (o + 18), byteAt b (o + 19), byteAt b (o + 20), byteAt b (o + 21),
            byteAt b (o + 22), byteAt b (o + 23), byteAt b (o + 24)],
        lengthMin := byteAt b (o + 25), lengthMax := byteAt b (o + 26), grades := byteAt b (o + 27),
        codeLow := byteAt b (o + 28), codeHigh := byteAt b (o + 29), transitions := byteAt b (o + 30), modes := m,
        disposeValue := byteAt b (o + 37), redirectLane := byteAt b (o + 38), classValue := byteAt b (o + 39),
        tagValue := halfAt b (o + 40), decodeProfile := byteAt b (o + 42), signalOutput := byteAt b (o + 43),
        signalPattern := byteAt b (o + 44), countIndex := byteAt b (o + 45) }
  | _, _ => none

/-- The 46 bytes READ_RULE returns: an UNUSED rule reads back as zeros (R47, R204). -/
def ruleBytes : Option RuleRecord → List Byte
  | some r => r.bytes
  | none => List.replicate 46 0

/-! ## The profile record (R205) -/

/-- The 7 bytes of a profile record. -/
def Profile.bytes (p : Profile) : List Byte :=
  num1 p.valueStart ++ num1 p.valueLength ++ [p.kind.code] ++ num1 p.decimals ++ num1 p.checkPosition ++
    num1 p.itemStart ++ num1 p.itemLength

/-! ## Counters (R195) -/

/-- The link counters in reply order. -/
def LinkCounters.list (c : LinkCounters) : List Count := [c.goodFrames, c.badCrc, c.gap, c.overrun, c.unknownKind]

/-- The queue counters in reply order. -/
def QueueCounters.list (c : QueueCounters) : List Count :=
  [c.admitted, c.fetched, c.flushed, c.evicted, c.lostEntry, c.lostScan, c.lostBulk, c.lostCritical, c.filtered,
    c.redirectedIn]

/-- The keyboard counters in reply order. -/
def KeyboardCounters.list (c : KeyboardCounters) : List Count := [c.presses, c.ghostBlocks, c.rolloverHolds, c.muted]

/-- The port counters in reply order. -/
def PortCounters.list (c : PortCounters) : List Count :=
  [c.goodFrames, c.badPrefix, c.badLength, c.badCharset, c.badLrc, c.byteError, c.gap, c.overlength, c.checkFailures,
    c.lockLosses, c.excessEvents, c.heldDiscarded, c.inhibited, c.repeatsSuppressed, c.steady, c.burst, c.flood]

/-- The drawer counters in reply order. -/
def DrawerCounters.list (c : DrawerCounters) : List Count :=
  [c.opensCommanded, c.opensUncommanded, c.opensFailed, c.leftOpen, c.abandoned]

end Sys2Proof.Machine
end

