-- ==== Sys2Proof/Machine/Effects.lean ====
section
/-!
DEFINITION. What a lane's block hands on to the rest of the part when it takes one of its events: an event it produces
(to the Classification Table), a symbol (to the Symbol Checker), the emptying of the recent-symbol list (R61). Each
block's own handling is a plain function of the block's state that returns the new state and this list, in order.
-/

namespace Sys2Proof.Machine

/-- One thing handed on. -/
inductive LaneEffect where
  | produce (time : Time) (body : EventBody)
  | handOn (symbol : Symbol)
  | emptyRecent
  deriving DecidableEq, Repr

/-- Run a block's handling for each member of a list in order, gathering what is handed on. -/
def runAll {α σ : Type} (f : α → σ → σ × List LaneEffect) : List α → σ → σ × List LaneEffect
  | [], s => (s, [])
  | a :: l, s =>
    let r := f a s
    let r' := runAll f l r.1
    (r'.1, r.2 ++ r'.2)

end Sys2Proof.Machine
end

