-- ==== Sys2Proof/Machine/Symbols.lean ====
section
/-!
DEFINITION. The Symbol Checker (chapter 5): symbology codes, check digits, the recent-symbol list, and the embedded
values a profile reads (R118 to R121), each as a function of plain data.
-/

namespace Sys2Proof.Machine

/-! ## Digits -/

/-- A digit character (R109, R119). -/
def isDigit (b : Byte) : Bool := decide (0x30 ≤ b.toNat) && decide (b.toNat ≤ 0x39)

/-- The value of a digit character. -/
def digitValue (b : Byte) : Nat := b.toNat - 0x30

/-! ## Check digits (R108 to R110) -/

/-- The symbology code the id map gives an id byte (R101, R108). -/
def symbologyOf (m : Vector IdEntry 16) : Option Byte → Byte
  | none => 0
  | some id =>
    match m.toList.find? fun e => e.used && e.id == id with
    | some e => e.code
    | none => 0

/-- The length the check digit of a code is verified at: EAN13, EAN8 and UPCA (R108). -/
def verifiedLength (code : Byte) : Option Nat :=
  if code = 1 then some 13 else if code = 2 then some 8 else if code = 3 then some 12 else none

/-- The weighted sum of digits counted from the right, the first with weight 3 when `three` (R110). -/
def weightedFromRight : Bool → List Byte → Nat
  | _, [] => 0
  | three, b :: l => digitValue b * (if three then 3 else 1) + weightedFromRight (!three) l

/-- The expected check of the digits left of the check (R110). -/
def expectedCheck (digits : List Byte) : Nat := (10 - weightedFromRight true digits.reverse % 10) % 10

/-- The three tests of R109 on the data of a symbol verified at length n. -/
def passesCheck (n : Nat) (data : List Byte) : Bool :=
  decide (data.length = n) && data.all isDigit &&
    decide (data.getLast?.map digitValue = some (expectedCheck data.dropLast))

/-- The symbol fails the check-digit test under a check set (R109). -/
def failsCheck (checks : Half) (code : Byte) (data : List Byte) : Bool :=
  match verifiedLength code with
  | some n => checks.getLsbD code.toNat && !passesCheck n data
  | none => false

/-! ## The recent-symbol list (R112 to R115) -/

/-- The symbol matches the entry (R112). -/
def RecentEntry.isMatch (e : RecentEntry) (code : Byte) (data : List Byte) : Bool :=
  e.code == code && decide (e.data = data)

/-- The symbol is suppressed as a repeat (R112, R113, R115). -/
def Checker.suppresses (c : Checker) (now : Time) (code : Byte) (data : List Byte) : Bool :=
  decide (0 < c.holdTime) &&
    (match c.recent.find? fun e => e.isMatch code data with
     | some e => decide (elapsed now e.time < c.holdTime)
     | none => false)

/-- The list after a symbol joins or refreshes its entry (R113, R114): what it matches goes, the oldest end goes if the
list is full, and the symbol stands at the newest end. -/
def refreshed (recent : List RecentEntry) (now : Time) (code : Byte) (data : List Byte) : List RecentEntry :=
  let others := recent.filter fun e => !e.isMatch code data
  (if others.length < 8 then others else others.drop (others.length - 7)) ++
    [{ code := code, data := data, time := now }]

/-- The checker after stage 4 for a symbol, suppressed or not: with a hold time of 0 the list is left alone (R115). -/
def Checker.remember (c : Checker) (now : Time) (code : Byte) (data : List Byte) : Checker :=
  if c.holdTime = 0 then c else { c with recent := refreshed c.recent now code data }

/-! ## Embedded values (R118 to R121) -/

/-- The field of n characters from a position counted from 1; none where it ends beyond the data or holds a character
that is not a digit (R119). -/
def digitField (data : List Byte) (start n : Nat) : Option (List Byte) :=
  if start - 1 + n ≤ data.length then
    let f := (data.drop (start - 1)).take n
    if f.all isDigit then some f else none
  else none

/-- The digits weighted 3, 7, 9, 3, 7, 9 from the left (R120). -/
def fieldCheckSum : List Byte → Nat
  | [] => 0
  | [a] => digitValue a * 3
  | [a, b] => digitValue a * 3 + digitValue b * 7
  | a :: b :: c :: l => digitValue a * 3 + digitValue b * 7 + digitValue c * 9 + fieldCheckSum l

/-- A run of digits read as a decimal integer. -/
def decimal (digits : List Byte) : Nat := digits.foldl (fun n b => n * 10 + digitValue b) 0

/-- The check position's digit: some none with no field check, none where it cannot be read (R118, R119). -/
def Profile.checkField (p : Profile) (data : List Byte) : Option (Option (List Byte)) :=
  if p.checkPosition = 0 then some none else (digitField data p.checkPosition 1).map some

/-- The item field: some none with no item field, none where it cannot be read (R118, R119). -/
def Profile.itemField (p : Profile) (data : List Byte) : Option (Option (List Byte)) :=
  if p.itemLength = 0 then some none else (digitField data p.itemStart p.itemLength).map some

/-- The record of a decode by a profile in use (R119 to R121). -/
def Profile.decodeInUse (p : Profile) (data : List Byte) : ValueRecord :=
  match digitField data p.valueStart p.valueLength, p.checkField data, p.itemField data with
  | some v, some check, some item =>
    let good :=
      match check with
      | some c => decide (fieldCheckSum v % 10 = decimal c)
      | none => true
    { status := if good then .valid else .checkFailed, kind := p.kind, decimals := p.decimals,
      value := if good then some (decimal v) else none, item := item }
  | _, _, _ => { status := .malformed, kind := p.kind, decimals := p.decimals, value := none, item := none }

/-- A decode: an empty profile attaches no record (R41). -/
def Profile.decode (p : Profile) (data : List Byte) : Option ValueRecord :=
  if p.valueLength = 0 then none else some (p.decodeInUse data)

end Sys2Proof.Machine
end

