-- ==== Sys2Proof/Machine/Classify.lean ====
section
/-!
DEFINITION. The Classification Table (chapter 2): matching, the search, and the tests and clamping of WRITE_RULE and
SET_PROFILE, as functions of plain data.
-/

namespace Sys2Proof.Machine

/-! ## Matching (R31 to R35) -/

/-- What the pattern fields test: an event as it reaches the table, with its keylock field and privilege (R31). -/
structure Subject where
  lane : LaneId
  body : EventBody
  keylock : KeylockPos
  elevated : Bool
  deriving DecidableEq, Repr

/-- The n-th member is in the set. -/
def memberOf (mask : Byte) (n : Nat) : Bool := mask.getLsbD n

/-- The prefix comparison, entry by entry; 0 is "any" (R34, R204). -/
def prefixMatches : List Byte → List Byte → Bool
  | [], _ => true
  | _ :: _, [] => false
  | e :: es, d :: ds => (e == 0 || e == d) && prefixMatches es ds

/-- The symbologies, prefix, length and grades fields against a symbol (R34). -/
def RuleRecord.fitsSymbol (r : RuleRecord) (code : Byte) (g : Grade) (data : List Byte) : Bool :=
  (!r.enables.symbologies || r.symbologies.getLsbD code.toNat) &&
    (!r.enables.prefixes || prefixMatches (r.prefixEntries.toList.take r.prefixLength.toNat) data) &&
    (!r.enables.length || (decide (r.lengthMin.toNat ≤ data.length) && decide (data.length ≤ r.lengthMax.toNat))) &&
    (!r.enables.grades || memberOf r.grades g.index)

/-- The key code and transitions fields against a key event (R35). -/
def RuleRecord.fitsKey (r : RuleRecord) (k : KeyKind) (code : Byte) : Bool :=
  (!r.enables.keyCode || (decide (r.codeLow.toNat ≤ code.toNat) && decide (code.toNat ≤ r.codeHigh.toNat))) &&
    (!r.enables.transitions || memberOf r.transitions k.index)

/-- A field that applies to symbols only is enabled. -/
def FieldEnables.anySymbol (e : FieldEnables) : Bool := e.symbologies || e.prefixes || e.length || e.grades

/-- A field that applies to key events only is enabled. -/
def FieldEnables.anyKey (e : FieldEnables) : Bool := e.keyCode || e.transitions

/-- The fields that apply to some sources only, against an event; an enabled field that does not apply does not match
(R32). -/
def RuleRecord.fitsBody (r : RuleRecord) : EventBody → Bool
  | .symbol _ code g data _ => !r.enables.anyKey && r.fitsSymbol code g data
  | .key k _ code => !r.enables.anySymbol && r.fitsKey k code
  | _ => !r.enables.anyKey && !r.enables.anySymbol

/-- A VALID rule matches an event (R32, R33). -/
def RuleRecord.fits (r : RuleRecord) (x : Subject) : Bool :=
  (!r.enables.lanes || memberOf r.lanes x.lane.val) &&
    (!r.enables.sources || memberOf r.sources x.body.source.index) &&
    (!r.enables.keylock || memberOf r.keylock x.keylock.index) &&
    (!r.enables.privilege || flagOf r.privilege == x.elevated) &&
    r.fitsBody x.body

/-! ## The search (R36, R37) -/

/-- The DISPOSE result (R38). -/
inductive Disposal where
  | deliver
  | redirect (lane : LaneId)
  | discard
  deriving DecidableEq, Repr

/-- The value of an action for an event: that of the first matching rule whose mode for it is not OFF, if that mode is
SET; none for the default (R37). -/
def ClassTable.claim {α : Type} (t : ClassTable) (x : Subject) (mode : ActionModes → ActionMode)
    (value : RuleRecord → α) : Option α :=
  match t.rules.toList.find? fun o =>
      match o with
      | some r => r.fits x && mode r.modes != .off
      | none => false with
  | some (some r) => if mode r.modes = .set then some (value r) else none
  | _ => none

/-- The DISPOSE value of a rule. -/
def RuleRecord.disposal (r : RuleRecord) : Disposal :=
  if r.disposeValue = 1 then
    match laneOf r.redirectLane with
    | some q => .redirect q
    | none => .deliver
  else if r.disposeValue = 2 then .discard
  else .deliver

/-- The class of an event by its source (R36). -/
def Source.defaultClass : Source → EventClass
  | .key => .entry
  | .keylock => .critical
  | .scanA => .scan
  | .scanB => .scan
  | .drawer => .critical
  | .status => .critical

/-- The class a code names. -/
def eventClassOf (b : Byte) : Option EventClass :=
  if b = 0 then some .critical
  else if b = 1 then some .entry
  else if b = 2 then some .scan
  else if b = 3 then some .bulk
  else none

/-- The output a SIGNAL value names. -/
def signalOutOf (b : Byte) : SignalOut := if b = 1 then .tone else .lamp

/-- The result of the search: one value for each action (R37). -/
structure Actions where
  dispose : Disposal
  cls : EventClass
  tag : Option Half
  decode : Option Nat
  signal : Option (SignalOut × Nat)
  count : Option Nat
  deriving DecidableEq, Repr

/-- The search of R37 with the defaults of R36. -/
def ClassTable.search (t : ClassTable) (x : Subject) : Actions :=
  { dispose := (t.claim x ActionModes.dispose RuleRecord.disposal).getD .deliver
    cls :=
      match t.claim x ActionModes.cls fun r => eventClassOf r.classValue with
      | some (some c) => c
      | _ => x.body.source.defaultClass
    tag := t.claim x ActionModes.tag RuleRecord.tagValue
    decode := t.claim x ActionModes.decode fun r => r.decodeProfile.toNat
    signal := t.claim x ActionModes.signal fun r => (signalOutOf r.signalOutput, r.signalPattern.toNat)
    count := t.claim x ActionModes.count fun r => r.countIndex.toNat }

/-- The profile of an index (R50). -/
def ClassTable.profile (t : ClassTable) (n : Nat) : Profile := t.profiles.toList.getD n Profile.reset

/-- The body of an event after the DECODE action, if any (R41). -/
def ClassTable.decoded (t : ClassTable) (b : EventBody) (decode : Option Nat) : EventBody :=
  match b, decode with
  | .symbol p code g data _, some n => .symbol p code g data ((t.profile n).decode data)
  | b, _ => b

/-- The table after the COUNT action, if any (R43). -/
def ClassTable.counted (t : ClassTable) : Option Nat → ClassTable
  | some n => if h : n < 32 then { t with flow := t.flow.set n (t.flow[n] + 1) h } else t
  | none => t

/-! ## WRITE_RULE (R45, R46) -/

/-- A prefix entry is "any" or a character (R45, R204). -/
def prefixEntryLegal (e : Byte) : Bool := e == 0 || (decide (0x20 ≤ e.toNat) && decide (e.toNat ≤ 0x7E))

/-- The enabled fields and the actions in mode SET hold no illegal enumeration value (R45 test 3). -/
def RuleRecord.legal (r : RuleRecord) : Bool :=
  (!r.enables.lanes || maskHas 4 r.lanes) && (!r.enables.sources || maskHas 6 r.sources) &&
    (!r.enables.keylock || maskHas 5 r.keylock) && (!r.enables.privilege || isFlag r.privilege) &&
    (!r.enables.prefixes || r.prefixEntries.toList.all prefixEntryLegal) &&
    (!r.enables.grades || maskHas 3 r.grades) && (!r.enables.transitions || maskHas 4 r.transitions) &&
    (r.modes.dispose != .set || decide (r.disposeValue.toNat < 3)) &&
    (r.modes.cls != .set || decide (r.classValue.toNat < 4)) && (r.modes.signal != .set || isFlag r.signalOutput)

/-- A REDIRECT in mode SET names a lane above 3 (R45 test 4). -/
def RuleRecord.badRedirect (r : RuleRecord) : Bool :=
  r.modes.dispose == .set && r.disposeValue == 1 && (laneOf r.redirectLane).isNone

/-- A profile, pattern or flow counter index in mode SET is out of range (R45 test 5). -/
def RuleRecord.badActionIndex (r : RuleRecord) : Bool :=
  (r.modes.decode == .set && decide (7 < r.decodeProfile.toNat)) ||
    (r.modes.signal == .set && decide (7 < r.signalPattern.toNat)) ||
    (r.modes.count == .set && decide (31 < r.countIndex.toNat))

/-- Clamp a byte. -/
def clampByte (lo hi : Nat) (b : Byte) : Byte := BitVec.ofNat 8 (clamp lo hi b.toNat)

/-- The enabled fields brought into their ranges (R46). -/
def RuleRecord.clamped (r : RuleRecord) : RuleRecord :=
  { r with
    prefixLength := if r.enables.prefixes then clampByte 1 8 r.prefixLength else r.prefixLength
    lengthMin := if r.enables.length then clampByte 1 48 r.lengthMin else r.lengthMin
    lengthMax := if r.enables.length then clampByte 1 48 r.lengthMax else r.lengthMax
    codeLow := if r.enables.keyCode then clampByte 1 255 r.codeLow else r.codeLow
    codeHigh := if r.enables.keyCode then clampByte 1 255 r.codeHigh else r.codeHigh }

/-- An enabled range whose low end is above its high end (R45 test 6). -/
def RuleRecord.badOrder (r : RuleRecord) : Bool :=
  (r.enables.length && decide (r.lengthMax.toNat < r.lengthMin.toNat)) ||
    (r.enables.keyCode && decide (r.codeHigh.toNat < r.codeLow.toNat))

/-- The record as stored: DELIVER and DISCARD in mode SET carry no destination lane (R204, log 14). -/
def RuleRecord.stored (r : RuleRecord) : RuleRecord :=
  if r.modes.dispose = .set ∧ r.disposeValue ≠ 1 then { r with redirectLane := 0 } else r

/-- Tests 3 to 6 of R45 on a record, in order; none if all pass. -/
def RuleRecord.refusal (r : RuleRecord) : Option Status :=
  if !r.legal then some .badArgument
  else if r.badRedirect then some .badLane
  else if r.badActionIndex then some .badIndex
  else if r.clamped.badOrder then some .badArgument
  else none

/-- The rule of an index becomes the given one (R29). -/
def ClassTable.withRule (t : ClassTable) (n : Fin 64) (r : Option RuleRecord) : ClassTable :=
  { t with rules := t.rules.set n.val r n.isLt }

/-- The rule of an index. -/
def ClassTable.rule (t : ClassTable) (n : Fin 64) : Option RuleRecord := t.rules.get n

/-! ## SET_PROFILE (R51) -/

/-- The seven settings clamped. -/
def profileTaken (b : List Byte) (kind : ValueKind) : Profile :=
  { valueStart := clamp 1 40 (natAt b 1), valueLength := clamp 0 6 (natAt b 2), kind := kind,
    decimals := clamp 0 3 (natAt b 4), checkPosition := clamp 0 48 (natAt b 5), itemStart := clamp 1 48 (natAt b 6),
    itemLength := clamp 0 12 (natAt b 7) }

/-- The profile of an index becomes the given one. -/
def ClassTable.withProfile (t : ClassTable) (n : Fin 8) (p : Profile) : ClassTable :=
  { t with profiles := t.profiles.set n.val p n.isLt }

end Sys2Proof.Machine
end

