-- ==== Sys2Proof/Machine/Keyboard.lean ====
section
/-!
DEFINITION. The Key Matrix Unit (chapter 3): debounce, key table, rollover, ghost blocking, typematic repeat, mute and
disable, and the key lock, each as a function of the unit's own state.
-/

namespace Sys2Proof.Machine

/-! ## Geometry and debounce -/

/-- Every position, in ascending order. -/
def allPositions : List KeyPos := List.finRange 128

/-- The row of a position (R53). -/
def rowOf (p : KeyPos) : Nat := p.val / 16

/-- The column of a position (R53). -/
def columnOf (p : KeyPos) : Nat := p.val % 16

/-- The position lies in the configured geometry (R53). -/
def KeyboardSettings.inGeometry (g : KeyboardSettings) (p : KeyPos) : Bool :=
  decide (rowOf p < g.rows) && decide (columnOf p < g.columns)

/-- The debounce time in ms (R55). -/
def KeyboardSettings.debounceTime (g : KeyboardSettings) : Nat := g.debounceCount * (if g.grain10 then 10 else 1)

/-- The mask of the positions a test holds for. -/
def maskWhere (f : KeyPos → Bool) : BitVec 128 :=
  allPositions.foldl (fun m p => if f p then m ||| BitVec.twoPow 128 p.val else m) 0

/-- A sample's raw values as the unit takes them: a position outside the geometry is up (R53). -/
def Keyboard.rawIn (k : Keyboard) (raw : BitVec 128) : BitVec 128 := raw &&& maskWhere k.settings.inGeometry

/-- The raw-change times after a sample: the sample's time where the raw value differs from the previous one (R55). -/
def Keyboard.sampledChanges (k : Keyboard) (now : Time) (raw : BitVec 128) : Vector Time 128 :=
  allPositions.foldl
    (fun v p => if raw.getLsbD p.val != k.previousRaw.getLsbD p.val then v.set p.val now p.isLt else v) k.rawChange

/-- The unit after the raw values of a sample have been recorded (R55). -/
def Keyboard.recordRaw (k : Keyboard) (now : Time) (raw : BitVec 128) : Keyboard :=
  { k with rawChange := k.sampledChanges now (k.rawIn raw), previousRaw := k.rawIn raw }

/-- The change of a position is accepted at this sample: its raw value differs from the debounced value and has stood
for the debounce time (R55). -/
def Keyboard.accepts (k : Keyboard) (now : Time) (p : KeyPos) : Bool :=
  k.previousRaw.getLsbD p.val != k.debounced.getLsbD p.val &&
    decide (k.settings.debounceTime ≤ elapsed now (k.rawChange.get p))

/-! ## Key states -/

/-- The key-table entry of a position (R57). -/
def Keyboard.entry (k : Keyboard) (p : KeyPos) : KeyEntry := k.keyTable.get p

/-- The position is debounced down. -/
def Keyboard.down (k : Keyboard) (p : KeyPos) : Bool := k.debounced.getLsbD p.val

/-- The position is in the reported-down set. -/
def Keyboard.isReported (k : Keyboard) (p : KeyPos) : Bool := k.reported.any fun r => r.position == p

/-- The position is in the ghost-blocked set. -/
def Keyboard.isBlocked (k : Keyboard) (p : KeyPos) : Bool := k.blocked.any fun r => r.position == p

/-- The position is in the absorbed set. -/
def Keyboard.isAbsorbed (k : Keyboard) (p : KeyPos) : Bool := k.absorbed.getLsbD p.val

/-- The reported-down set holds fewer keys than the rollover limit (R59, R62). -/
def Keyboard.hasRoom (k : Keyboard) : Bool := decide (k.reported.length < k.settings.rolloverLimit)

/-- A key joins the reported-down set, which is kept in ascending position order. -/
def insertReported (r : ReportedKey) : List ReportedKey → List ReportedKey
  | [] => [r]
  | x :: l => if r.position.val < x.position.val then r :: x :: l else x :: insertReported r l

/-- A position joins the absorbed set. -/
def Keyboard.absorb (k : Keyboard) (p : KeyPos) : Keyboard :=
  { k with absorbed := k.absorbed ||| BitVec.twoPow 128 p.val }

/-- A position leaves the absorbed set. -/
def Keyboard.unabsorb (k : Keyboard) (p : KeyPos) : Keyboard :=
  { k with absorbed := k.absorbed &&& ~~~(BitVec.twoPow 128 p.val) }

/-- Report a key down at time t (R61): capture, join the set, PRESS, typematic (R65), and for a captured
REPEAT_RELEASE the emptying of the recent-symbol list. -/
def Keyboard.report (t : Time) (p : KeyPos) (k : Keyboard) : Keyboard × List LaneEffect :=
  let e := k.entry p
  ({ k with
      reported := insertReported { position := p, entry := e, reportTime := t } k.reported
      counters := { k.counters with presses := k.counters.presses + 1 }
      typematic :=
        if e.repeatable then some { position := p, nextRepeat := after t k.settings.typematicDelay } else none },
    .produce t (.key .press p e.code) :: (if e.repeatRelease then [.emptyRecent] else []))

/-- A key goes through rollover: it is reported if there is room, and waits otherwise (R59, R62, R64). -/
def Keyboard.rollover (t : Time) (p : KeyPos) (k : Keyboard) : Keyboard × List LaneEffect :=
  if k.hasRoom then k.report t p
  else
    ({ k with
        waiting := k.waiting ++ [p]
        counters := { k.counters with rolloverHolds := k.counters.rolloverHolds + 1 } }, [])

/-! ## The stages of a sample (R56) -/

/-- A press at a position is ghost-suspect: three other corners of a rectangle are down (R63). -/
def Keyboard.suspect (k : Keyboard) (p : KeyPos) : Bool :=
  (List.range 8).any fun r =>
    (List.range 16).any fun c =>
      r != rowOf p && c != columnOf p && k.debounced.getLsbD (rowOf p * 16 + c) &&
        k.debounced.getLsbD (r * 16 + columnOf p) && k.debounced.getLsbD (r * 16 + c)

/-- Stage 2, for one position: an accepted release (R60). -/
def Keyboard.releaseKey (t : Time) (p : KeyPos) (k : Keyboard) : Keyboard × List LaneEffect :=
  match k.reported.find? fun r => r.position == p with
  | some r =>
    ({ k with
        reported := k.reported.filter fun x => x.position != p
        typematic := k.typematic.filter fun x => x.position != p },
      [.produce t (.key .release p r.entry.code)])
  | none =>
    ({ k with
        waiting := k.waiting.filter fun x => x != p
        blocked := k.blocked.filter fun x => x.position != p
        absorbed := k.absorbed &&& ~~~(BitVec.twoPow 128 p.val) }, [])

/-- Stage 3: while there is room, the oldest waiting key is reported (R62); n bounds the keys waiting. -/
def Keyboard.promote (t : Time) : Nat → Keyboard → Keyboard × List LaneEffect
  | 0, k => (k, [])
  | n + 1, k =>
    match k.waiting with
    | [] => (k, [])
    | p :: rest =>
      if k.hasRoom then
        let r := Keyboard.report t p { k with waiting := rest }
        let r' := Keyboard.promote t n r.1
        (r'.1, r.2 ++ r'.2)
      else (k, [])

/-- Stage 4: blocked keys no longer suspect leave the set and go through rollover, in order of their press times, then
of position (R64). -/
def Keyboard.retest (t : Time) (k : Keyboard) : Keyboard × List LaneEffect :=
  let freed := k.blocked.filter fun b => !k.suspect b.position
  runAll (fun b k => Keyboard.rollover t b.position k) freed
    { k with blocked := k.blocked.filter fun b => k.suspect b.position }

/-- Stage 5, for one position: an accepted press (R59). -/
def Keyboard.pressKey (t : Time) (muted : Bool) (p : KeyPos) (k : Keyboard) : Keyboard × List LaneEffect :=
  if (k.entry p).code = 0 then (k, [])
  else if muted then
    ({ k.absorb p with counters := { k.counters with muted := k.counters.muted + 1 } }, [])
  else if k.suspect p then
    ({ k with
        blocked := k.blocked ++ [{ position := p, pressTime := t }]
        counters := { k.counters with ghostBlocks := k.counters.ghostBlocks + 1 } }, [])
  else k.rollover t p

/-- A sample of the matrix with debounce (R55, R56): the raw values are recorded, the changes that have stood for the
debounce time are accepted together, and the five stages follow in order. A sample that accepts no change only records
the raw values. -/
def Keyboard.sample (now : Time) (muted : Bool) (raw : BitVec 128) (k : Keyboard) : Keyboard × List LaneEffect :=
  let k0 := k.recordRaw now raw
  let accepted := allPositions.filter fun p => k0.accepts now p
  if accepted.isEmpty then (k0, [])
  else
    let releases := accepted.filter fun p => k0.down p
    let presses := accepted.filter fun p => !k0.down p
    let k1 := { k0 with debounced := k0.debounced ^^^ maskWhere fun p => k0.accepts now p }
    let s2 := runAll (Keyboard.releaseKey now) releases k1
    let s3 := Keyboard.promote now s2.1.waiting.length s2.1
    let s4 := s3.1.retest now
    let s5 := runAll (Keyboard.pressKey now muted) presses s4.1
    (s5.1, s2.2 ++ s3.2 ++ s4.2 ++ s5.2)

/-- The first sample after an enable or a restart (R69): raw values are taken without debounce, and keys found down
are absorbed, or ignored where their code is 0. -/
def Keyboard.firstSampleTaken (now : Time) (raw : BitVec 128) (k : Keyboard) : Keyboard :=
  let r := k.rawIn raw
  { k with
    debounced := r
    previousRaw := r
    rawChange := Vector.replicate 128 now
    absorbed := r &&& maskWhere fun p => decide ((k.entry p).code ≠ 0)
    firstSample := false }

/-- The typematic test of a sample (R65): at or after the next-repeat time a REPEAT with the captured code, and the
next-repeat time moves on from the sample's time. -/
def Keyboard.typematicTest (now : Time) (k : Keyboard) : Keyboard × List LaneEffect :=
  match k.typematic with
  | none => (k, [])
  | some m =>
    if reached now m.nextRepeat then
      match k.reported.find? fun r => r.position == m.position with
      | none => (k, [])
      | some r =>
        ({ k with typematic := some { m with nextRepeat := after now k.settings.typematicInterval } },
          [.produce now (.key .repeated m.position r.entry.code)])
    else (k, [])

/-! ## Mute, disable, restart -/

/-- Steps 1 and 2 of R66: a FORCED_RELEASE for every reported key in ascending position order, and the reported-down
set, the waiting list and the ghost-blocked set are emptied, and the typematic key becomes none. -/
def Keyboard.forceReleases (t : Time) (k : Keyboard) : Keyboard × List LaneEffect :=
  ({ k with reported := [], waiting := [], blocked := [], typematic := none },
    k.reported.map fun r => .produce t (.key .forcedRelease r.position r.entry.code))

/-- The start of a mute while the KEYBOARD enable is on (R66). -/
def Keyboard.muteStart (t : Time) (k : Keyboard) : Keyboard × List LaneEffect :=
  let r := k.forceReleases t
  ({ r.1 with absorbed := r.1.absorbed ||| (r.1.debounced &&& maskWhere fun p => decide ((k.entry p).code ≠ 0)) },
    r.2)

/-- The matrix state cleared (R68, R70): every debounced value up, no key in any set, raw values and raw-change times
discarded (they read 0: log 9). -/
def Keyboard.clearMatrix (k : Keyboard) (first : Bool) : Keyboard :=
  { k with
    debounced := 0
    previousRaw := 0
    rawChange := Vector.replicate 128 0
    firstSample := first
    reported := []
    waiting := []
    blocked := []
    absorbed := 0
    typematic := none }

/-- The KEYBOARD enable goes from on to off (R68). -/
def Keyboard.disable (t : Time) (k : Keyboard) : Keyboard × List LaneEffect :=
  let r := k.forceReleases t
  (r.1.clearMatrix false, r.2)

/-- The KEYBOARD enable goes from off to on: the next sample is a first sample (R69). -/
def Keyboard.enable (k : Keyboard) : Keyboard := { k with firstSample := true }

/-- RESET_LANE restarts the matrix without key events (R70). -/
def Keyboard.restart (k : Keyboard) : Keyboard := k.clearMatrix true

/-! ## The key table (R58) -/

/-- Write one entry and adjust the state of its key, by the table of R58. -/
def Keyboard.writeEntry (p : KeyPos) (e : KeyEntry) (k : Keyboard) : Keyboard :=
  let w := { k with keyTable := k.keyTable.set p.val e p.isLt }
  if k.isReported p then w
  else if e.code = 0 then
    { w with
      waiting := k.waiting.filter fun x => x != p
      blocked := k.blocked.filter fun x => x.position != p
      absorbed := k.absorbed &&& ~~~(BitVec.twoPow 128 p.val) }
  else if k.down p && !k.waiting.contains p && !k.isBlocked p then w.absorb p
  else w

/-- Write a run of entries from a first position on. -/
def Keyboard.writeEntries : Nat → List KeyEntry → Keyboard → Keyboard
  | _, [], k => k
  | n, e :: l, k => Keyboard.writeEntries (n + 1) l (if h : n < 128 then k.writeEntry ⟨n, h⟩ e else k)

/-! ## SET_KEYBOARD (R76) -/

/-- The settings written change the geometry or the rollover limit. -/
def KeyboardSettings.restarts (old new : KeyboardSettings) : Bool :=
  decide (old.rows ≠ new.rows) || decide (old.columns ≠ new.columns) ||
    decide (old.rolloverLimit ≠ new.rolloverLimit)

/-- Write the nine settings (R76): a change of geometry or rollover limit with the enable on restarts the matrix with
FORCED_RELEASE events. -/
def Keyboard.configure (t : Time) (enabled : Bool) (g : KeyboardSettings) (k : Keyboard) :
    Keyboard × List LaneEffect :=
  if k.settings.restarts g && enabled then
    let r := k.forceReleases t
    ({ r.1.clearMatrix true with settings := g }, r.2)
  else ({ k with settings := g }, [])

/-! ## The key lock -/

/-- The position a valid pattern names; none for an invalid pattern (R71). -/
def keylockNamed (i : BitVec 4) : Option KeylockPos :=
  if i = 1 then some .lock
  else if i = 2 then some .sale
  else if i = 4 then some .supervisor
  else if i = 8 then some .service
  else none

/-- The debounced pattern is invalid (R71). -/
def Keylock.isInvalid (l : Keylock) : Bool := l.debounced.any fun i => (keylockNamed i).isNone

/-- The fault timer after an invalid pattern has been accepted (R73): it starts unless it runs; but while the position is
UNKNOWN and the debounced pattern has been invalid all along it stays as it is, since a lock whose fault has been produced
produces no further event then (DEDUCED, safe: log 28). -/
def Keylock.timerAtInvalid (now : Time) (l : Keylock) : Option Time :=
  if l.position = .unknown ∧ l.isInvalid = true then l.faultTimer else some (l.faultTimer.getD now)

/-- A sample of the key-lock inputs (R71): the raw pattern is recorded, and accepted once it has stood for the debounce
time. An accepted valid pattern stops the fault timer and produces POSITION if the position changes (R72); an accepted
invalid pattern keeps the position (R73). -/
def Keyboard.keylockSample (now : Time) (i : BitVec 4) (k : Keyboard) : Keyboard × List LaneEffect :=
  let l := k.keylock
  let change : Time :=
    match l.previousRaw with
    | none => l.rawChange
    | some r => if r = i then l.rawChange else now
  let l1 := { l with previousRaw := some i, rawChange := change }
  if l.debounced ≠ some i ∧ k.settings.keylockCount * 10 ≤ elapsed now change then
    let l2 := { l1 with debounced := some i }
    match keylockNamed i with
    | some pos =>
      let l3 := { l2 with faultTimer := none, position := pos }
      ({ k with keylock := l3 }, if l.position = pos then [] else [.produce now (.keylockPosition pos)])
    | none => ({ k with keylock := { l2 with faultTimer := l.timerAtInvalid now } }, [])
  else ({ k with keylock := l1 }, [])

/-- The test of the fault timer at a sample (R73). -/
def Keyboard.keylockFaultTest (now : Time) (k : Keyboard) : Keyboard × List LaneEffect :=
  match k.keylock.faultTimer with
  | none => (k, [])
  | some start =>
    if k.settings.keylockFaultTime ≤ elapsed now start then
      ({ k with keylock := { k.keylock with faultTimer := none, position := .unknown } },
        [.produce now (.keylockFault k.keylock.position (k.keylock.debounced.getD 0))])
    else (k, [])

end Sys2Proof.Machine
end

