-- ==== Sys2Proof/Machine/Drawer.lean ====
section
/-!
DEFINITION. The Drawer Controller and the Drive Supply Arbiter (chapter 7), as functions of their own states. The
solenoid output of a lane is on exactly while its drawer state is DRIVING (R135).
-/

namespace Sys2Proof.Machine

/-! ## The Drive Supply Arbiter (R139, R140) -/

/-- A request joins the youngest end of the waiting list (R138). -/
def Arbiter.join (a : Arbiter) (q : LaneId) : Arbiter := { a with waiting := a.waiting ++ [q] }

/-- The request of a lane is withdrawn from the waiting list. -/
def Arbiter.withdraw (a : Arbiter) (q : LaneId) : Arbiter := { a with waiting := a.waiting.filter fun x => x != q }

/-- The slot a lane holds is freed. -/
def Arbiter.release (a : Arbiter) (q : LaneId) : Arbiter :=
  { a with
    slot1 := if a.slot1 = some q then none else a.slot1
    slot2 := if a.slot2 = some q then none else a.slot2 }

/-- A grant (R140): while a slot is free, the oldest eligible request leaves the list and its lane holds the slot. -/
def Arbiter.grant (a : Arbiter) (eligible : LaneId → Bool) : Option (LaneId × Arbiter) :=
  match a.waiting.find? eligible with
  | none => none
  | some q =>
    let w := a.withdraw q
    if a.slot1 = none then some (q, { w with slot1 := some q })
    else if a.slot2 = none then some (q, { w with slot2 := some q })
    else none

/-! ## The Drawer Controller -/

/-- The drawer is cooling: its cooldown end time is set and part time has not reached it (R140). -/
def Drawer.cooling (now : Time) (d : Drawer) : Bool :=
  match d.cooldownEnd with
  | some t => !reached now t
  | none => false

/-- The drawer state is OPEN. -/
def Drawer.isOpen (d : Drawer) : Bool :=
  match d.state with
  | .opened _ _ _ => true
  | _ => false

/-- The drawer state is QUEUED. -/
def Drawer.isQueued (d : Drawer) : Bool :=
  match d.state with
  | .queued _ => true
  | _ => false

/-- The drawer state is DRIVING: the solenoid output is on (R135). -/
def Drawer.isDriving (d : Drawer) : Bool :=
  match d.state with
  | .driving _ => true
  | _ => false

/-- A sample of the sense switch (R136): the drawer, and whether the raw value is accepted as a change. -/
def Drawer.sampleSense (now : Time) (raw : Bool) (d : Drawer) : Drawer × Bool :=
  let change := if raw = d.senseRaw then d.senseChange else now
  let accepted := raw != d.senseOpen && decide (d.settings.senseCount * 10 ≤ elapsed now change)
  ({ d with senseRaw := raw, senseChange := change, senseOpen := if accepted then raw else d.senseOpen }, accepted)

/-- A drawer is accepted for opening (R138). -/
def Drawer.enqueue (now : Time) (d : Drawer) : Drawer :=
  { d with state := .queued (after now d.settings.queueTimeout) }

/-- A grant (R141). -/
def Drawer.drive (now : Time) (d : Drawer) : Drawer := { d with state := .driving (after now d.settings.pulseWidth) }

/-- OPEN, with its alarm started if there is one (R146). -/
def DrawerSettings.openState (g : DrawerSettings) (now : Time) : DrawerState :=
  .opened now (if g.leftOpenAlarm = 0 then none else some (after now (g.leftOpenAlarm * 1000))) false

/-- An accepted open opens the drawer with cause COMMANDED (R143). -/
def Drawer.openCommanded (now : Time) (d : Drawer) : Drawer × List LaneEffect :=
  ({ d with
      state := d.settings.openState now
      fault := false
      counters := { d.counters with opensCommanded := d.counters.opensCommanded + 1 } },
    [.produce now (.drawerOpened .commanded)])

/-- An accepted open opens the drawer without a drive (R144). -/
def Drawer.openByItself (now : Time) (cause : OpenCause) (d : Drawer) : Drawer × List LaneEffect :=
  ({ d with
      state := d.settings.openState now
      counters := { d.counters with opensUncommanded := d.counters.opensUncommanded + 1 } },
    [.produce now (.drawerOpened cause)])

/-- An accepted open of the sense switch (R143, R144). A cut pulse starts the cooldown. -/
def Drawer.senseOpened (now : Time) (d : Drawer) : Drawer × List LaneEffect :=
  match d.state with
  | .driving _ => { d with cooldownEnd := some (after now d.settings.cooldown) }.openCommanded now
  | .confirming _ => d.openCommanded now
  | .queued _ => d.openByItself now .beforeDrive
  | .closed => d.openByItself now .uncommanded
  | .opened _ _ _ => (d, [])

/-- An accepted close of the sense switch (R147). -/
def Drawer.senseClosed (now : Time) (d : Drawer) : Drawer × List LaneEffect :=
  match d.state with
  | .opened start _ _ => ({ d with state := .closed }, [.produce now (.drawerClosed (now - start))])
  | _ => (d, [])

/-- The pulse end has been reached in DRIVING (R142). -/
def Drawer.pulseDue (now : Time) (d : Drawer) : Option Time :=
  match d.state with
  | .driving e => if reached now e then some e else none
  | _ => none

/-- The drawer after its pulse end e (R142). -/
def Drawer.pulseEnded (e : Time) (d : Drawer) : Drawer :=
  { d with
    cooldownEnd := some (after e d.settings.cooldown)
    state := .confirming (after e d.settings.confirmTimeout) }

/-- The cooldown end has been reached (R142). -/
def Drawer.cooldownDue (now : Time) (d : Drawer) : Bool :=
  match d.cooldownEnd with
  | some t => reached now t
  | none => false

/-- The confirm expiry (R145). -/
def Drawer.confirmExpired (now : Time) (d : Drawer) : Drawer × List LaneEffect :=
  match d.state with
  | .confirming e =>
    if reached now e then
      ({ d with
          state := .closed
          fault := true
          counters := { d.counters with opensFailed := d.counters.opensFailed + 1 } },
        [.produce e .drawerFailed])
    else (d, [])
  | _ => (d, [])

/-- The queue expiry has been reached in QUEUED (R148). -/
def Drawer.queueDue (now : Time) (d : Drawer) : Option Time :=
  match d.state with
  | .queued e => if reached now e then some e else none
  | _ => none

/-- A QUEUED drawer gives its request up (R148 to R150). -/
def Drawer.abandon (t : Time) (reason : AbandonReason) (d : Drawer) : Drawer × List LaneEffect :=
  ({ d with state := .closed, counters := { d.counters with abandoned := d.counters.abandoned + 1 } },
    [.produce t (.drawerAbandoned reason)])

/-- The left-open alarm (R146). -/
def Drawer.leftOpenExpired (now : Time) (d : Drawer) : Drawer × List LaneEffect :=
  match d.state with
  | .opened start (some e) false =>
    if reached now e then
      ({ d with
          state := .opened start none true
          counters := { d.counters with leftOpen := d.counters.leftOpen + 1 } },
        [.produce e .drawerLeftOpen])
    else (d, [])
  | _ => (d, [])

/-! ## SET_DRAWER (R154) -/

/-- The settings a body carries (R207). -/
def drawerSettingsAt (b : List Byte) : DrawerSettings :=
  { pulseWidth := nat2At b 1, confirmTimeout := nat2At b 3, leftOpenAlarm := nat2At b 5, cooldown := nat2At b 7,
    queueTimeout := nat2At b 9, senseCount := natAt b 11 }

/-- Each setting brought into its range; an alarm of 0 is in range (R154). -/
def DrawerSettings.clamped (g : DrawerSettings) : DrawerSettings :=
  { pulseWidth := clamp 20 250 g.pulseWidth
    confirmTimeout := clamp 100 5000 g.confirmTimeout
    leftOpenAlarm := if g.leftOpenAlarm = 0 then 0 else clamp 10 600 g.leftOpenAlarm
    cooldown := clamp 200 2000 g.cooldown
    queueTimeout := clamp 250 5000 g.queueTimeout
    senseCount := clamp 1 20 g.senseCount }

/-- The settings as the reply carries them (R207). -/
def DrawerSettings.bytes (g : DrawerSettings) : List Byte :=
  num2 g.pulseWidth ++ num2 g.confirmTimeout ++ num2 g.leftOpenAlarm ++ num2 g.cooldown ++ num2 g.queueTimeout ++
    num1 g.senseCount

end Sys2Proof.Machine
end

