-- ==== Sys2Proof/Machine/Meter.lean ====
section
/-!
DEFINITION. The Scan Meter (chapter 6): refill and spill, grading, pacing holds and their release, as functions of the
meter's own state. Buckets hold milli-scans.
-/

namespace Sys2Proof.Machine

/-- The elapsed time of a refill, at most 65535 ms (R126 step 1). -/
def refillSpan (now last : Time) : Nat := min 65535 (elapsed now last)

/-- The refill of both buckets at time t (R126): what the steady bucket cannot hold spills into the burst bucket. -/
def Meter.refill (m : Meter) (t : Time) : Meter :=
  let sum := m.steady + refillSpan t m.lastArrival * m.rate
  let cap := m.steadyCapacity * 1000
  { m with
    steady := min sum cap
    burst := min (m.burst + (sum - cap)) (m.burstCapacity * 1000) }

/-- The grade the buckets give, after the refill (R127 steps 1 to 3). -/
def Meter.gradeNow (m : Meter) : Grade :=
  if 1000 ≤ m.steady then .steady else if 1000 ≤ m.burst then .burst else .flood

/-- The tokens a grade takes (R127 steps 1 to 3). -/
def Meter.takeTokens (m : Meter) : Grade → Meter
  | .steady => { m with steady := m.steady - 1000 }
  | .burst => { m with burst := m.burst - 1000 }
  | .flood => m

/-- The grade of an arrival at time t (R127). -/
def Meter.gradeAt (m : Meter) (t : Time) : Grade := (m.refill t).gradeNow

/-- The meter after an arrival at time t has been refilled and graded (R126, R127), before any hold. -/
def Meter.graded (m : Meter) (t : Time) : Meter :=
  let r := m.refill t
  { r.takeTokens r.gradeNow with lastArrival := t }

/-- The release time computed from the last-arrival time and the steady bucket (R129). -/
def Meter.releaseTime (m : Meter) : Time :=
  after m.lastArrival ((m.releaseLevel * 1000 - m.steady + (m.rate - 1)) / m.rate)

/-- The arrival starts a pacing hold: a FLOOD with pacing on while IDLE (R128). -/
def Meter.startsHold (m : Meter) (g : Grade) : Bool := g == .flood && m.pacingOn && m.pacing == .idle

/-- The pacing state after an arrival of grade g has been graded (R128, R129). -/
def Meter.paced (m : Meter) (g : Grade) : Meter :=
  match m.pacing with
  | .holding _ => { m with pacing := .holding m.releaseTime }
  | .idle => if m.startsHold g then { m with pacing := .holding m.releaseTime } else m

/-- The hold's release time has been reached (R130). -/
def Meter.releaseDue (m : Meter) (now : Time) : Option Time :=
  match m.pacing with
  | .holding t => if reached now t then some t else none
  | .idle => none

/-- The meter after the release of a hold at its release time (R130 steps 1 to 3). -/
def Meter.released (m : Meter) (release : Time) : Meter :=
  { m.refill release with lastArrival := release, pacing := .idle }

/-- The settings SET_METER writes, clamped, with P within 1 to the SC taken (R132). -/
def Meter.withSettings (m : Meter) (rate sc bc p : Nat) (pacing : Bool) : Meter :=
  { m with
    rate := clamp 1 50 rate
    steadyCapacity := clamp 1 32 sc
    burstCapacity := clamp 0 64 bc
    pacingOn := pacing
    releaseLevel := clamp 1 (clamp 1 32 sc) p }

/-- The meter after SET_METER at a time: settings taken, no hold, both buckets full (R133). -/
def Meter.configured (m : Meter) (now : Time) (rate sc bc p : Nat) (pacing : Bool) : Meter :=
  let w := m.withSettings rate sc bc p pacing
  { w with
    pacing := .idle
    steady := w.steadyCapacity * 1000
    burst := w.burstCapacity * 1000
    lastArrival := now }

/-- The meter is HOLDING. -/
def Meter.holds (m : Meter) : Bool :=
  match m.pacing with
  | .holding _ => true
  | .idle => false

end Sys2Proof.Machine
end

