-- ==== Sys2Proof/Machine/Store.lean ====
section
/-!
DEFINITION. The Event Store (chapter 1): slots and shares, the admission tests, eviction, loss accounting, retrieval and
the admission settings, each as a function of the store's own state.
-/

namespace Sys2Proof.Machine

/-! ## Shares (R3) -/

/-- The sum of a quantity over the four lanes. -/
def laneSum (f : LaneId → Nat) : Nat := f 0 + f 1 + f 2 + f 3

/-- occ_q. -/
def EventStore.occ (st : EventStore) (q : LaneId) : Nat := (st.queues.get q).events.length

/-- The shared pool size: 256 less the reserves. -/
def EventStore.poolSize (st : EventStore) : Nat := Config.slots - laneSum fun q => (st.queues.get q).reserve

/-- The shared usage U. -/
def EventStore.sharedUsage (st : EventStore) : Nat := laneSum fun q => st.occ q - (st.queues.get q).reserve

/-- The limit a class has; none for CRITICAL (R4). -/
def ClassLimits.of (l : ClassLimits) : EventClass → Option Nat
  | .critical => none
  | .entry => some l.entry
  | .scan => some l.scan
  | .bulk => some l.bulk

/-! ## Admission (R5 to R9) -/

/-- The outcome of the admission tests (R5). -/
inductive Verdict where
  | intoReserve
  | intoPool
  | byEviction
  | refuse
  deriving DecidableEq, Repr

/-- The youngest event whose class is not CRITICAL is taken out, and its loss goes to the event that follows it. What
no event follows to carry is the second component (R6, R9). None if every event is CRITICAL. -/
def evictYoungest : List EventRecord → Option (List EventRecord × Nat)
  | [] => none
  | r :: l =>
    match evictYoungest l with
    | some x => some (r :: x.1, x.2)
    | none =>
      if r.event.cls = .critical then none
      else
        match l with
        | [] => some ([], r.lostBefore + 1)
        | f :: l' => some ({ f with lostBefore := satAdd f.lostBefore (r.lostBefore + 1) } :: l', 0)

/-- The lane limit of the class is reached (R5 test 1). -/
def EventStore.laneFull (st : EventStore) (q : LaneId) (c : EventClass) : Bool :=
  match st.laneLimits.of c with
  | some l => decide (l ≤ st.occ q)
  | none => false

/-- The class may take a pool slot (R5 test 3). -/
def EventStore.poolOpen (st : EventStore) (c : EventClass) : Bool :=
  decide (st.sharedUsage < st.poolSize) &&
    (match st.sharedLimits.of c with
     | some l => decide (st.sharedUsage < l)
     | none => true)

/-- The five tests of R5 for an event of class c offered to queue q. -/
def EventStore.verdict (st : EventStore) (q : LaneId) (c : EventClass) : Verdict :=
  if st.laneFull q c then .refuse
  else if st.occ q < (st.queues.get q).reserve then .intoReserve
  else if st.poolOpen c then .intoPool
  else if c = .critical ∧ (evictYoungest (st.queues.get q).events).isSome then .byEviction
  else .refuse

/-- The store with the queue of lane q replaced. -/
def EventStore.withQueue (st : EventStore) (q : LaneId) (x : LaneQueue) : EventStore :=
  { st with queues := st.queues.set q x }

/-- A refusal (R7). -/
def LaneQueue.refuse (x : LaneQueue) (c : EventClass) : LaneQueue :=
  { x with
    lost := satAdd x.lost 1
    counters :=
      match c with
      | .critical => { x.counters with lostCritical := x.counters.lostCritical + 1 }
      | .entry => { x.counters with lostEntry := x.counters.lostEntry + 1 }
      | .scan => { x.counters with lostScan := x.counters.lostScan + 1 }
      | .bulk => { x.counters with lostBulk := x.counters.lostBulk + 1 } }

/-- An admission at the youngest end (R2, R8, R10, R26). -/
def LaneQueue.admitEvent (x : LaneQueue) (e : Event) (redirected : Bool) : LaneQueue :=
  { x with
    events := x.events ++ [{ event := e, sequence := x.nextSequence, lostBefore := x.lost }]
    lost := 0
    nextSequence := x.nextSequence + 1
    counters :=
      { x.counters with
        admitted := x.counters.admitted + 1
        redirectedIn := x.counters.redirectedIn + (if redirected then 1 else 0) } }

/-- The queue after the eviction that makes room for a critical event (R6, R9); unchanged if there is nothing to
evict. -/
def LaneQueue.evict (x : LaneQueue) : LaneQueue :=
  match evictYoungest x.events with
  | some y =>
    { x with
      events := y.1
      lost := if y.2 = 0 then x.lost else satAdd x.lost y.2
      counters := { x.counters with evicted := x.counters.evicted + 1 } }
  | none => x

/-- Offer an event to queue q (R5): the store, and whether the event was admitted. -/
def EventStore.offer (st : EventStore) (q : LaneId) (e : Event) (redirected : Bool) : EventStore × Bool :=
  let x := st.queues.get q
  match st.verdict q e.cls with
  | .intoReserve => (st.withQueue q (x.admitEvent e redirected), true)
  | .intoPool => (st.withQueue q (x.admitEvent e redirected), true)
  | .byEviction => (st.withQueue q (x.evict.admitEvent e redirected), true)
  | .refuse => (st.withQueue q (x.refuse e.cls), false)

/-- An admission that raises the occupancy from 0 to 1, or to the watermark, marks the lane READY (R13). -/
def marksReady (watermark before now : Nat) : Bool :=
  decide (before < now) && (decide (now = 1) || decide (now = watermark))

/-- The lane's filtered counter advances (R11). -/
def EventStore.countFiltered (st : EventStore) (q : LaneId) : EventStore :=
  let x := st.queues.get q
  st.withQueue q { x with counters := { x.counters with filtered := x.counters.filtered + 1 } }

/-! ## Waits (R18 to R21) -/

/-- The source is in the source set. -/
def inSources (sources : BitVec 6) (src : Source) : Bool := sources.getLsbD src.index

/-- The oldest event of the queue whose source is in the set (R18). -/
def LaneQueue.oldestFrom (x : LaneQueue) (sources : BitVec 6) : Option EventRecord :=
  x.events.find? fun r => inSources sources r.event.body.source

/-- The store with the pending wait of lane q replaced. -/
def EventStore.setWait (st : EventStore) (q : LaneId) (w : Option Wait) : EventStore :=
  st.withQueue q { st.queues.get q with wait := w }

/-! ## Retrieval (R14 to R16, R28) -/

/-- The oldest records, at most n of them, that fit one after another in the room; and the rest (R14). -/
def takeRecords : Nat → Nat → List EventRecord → List EventRecord × List EventRecord
  | 0, _, l => ([], l)
  | _ + 1, _, [] => ([], [])
  | n + 1, room, r :: l =>
    if r.size ≤ room then
      let x := takeRecords n (room - r.size) l
      (r :: x.1, x.2)
    else ([], r :: l)

/-- The records a FETCH of at most n events carries. -/
def LaneQueue.fetchable (x : LaneQueue) (n : Nat) : List EventRecord := (takeRecords n Config.fetchRoom x.events).1

/-- The queue after a FETCH of at most n events (R14). -/
def LaneQueue.fetched (x : LaneQueue) (n : Nat) : LaneQueue :=
  { x with
    events := (takeRecords n Config.fetchRoom x.events).2
    counters :=
      { x.counters with fetched := x.counters.fetched + BitVec.ofNat 32 (x.fetchable n).length } }

/-- The queue after a FLUSH, or after steps 1 and 2 of R28. -/
def LaneQueue.flush (x : LaneQueue) : LaneQueue :=
  { x with
    events := []
    lost := 0
    counters := { x.counters with flushed := x.counters.flushed + BitVec.ofNat 32 x.events.length } }

/-! ## Admission settings (R24, R25) -/

/-- The fourteen values of SET_ADMISSION. -/
structure AdmissionSettings where
  reserves : Lanes Nat
  laneLimits : ClassLimits
  sharedLimits : ClassLimits
  watermarks : Lanes Nat
  deriving DecidableEq, Repr

/-- The values a body carries (R207). -/
def admissionAt (b : List Byte) : AdmissionSettings :=
  { reserves := ⟨natAt b 0, natAt b 1, natAt b 2, natAt b 3⟩
    laneLimits := ⟨nat2At b 4, nat2At b 6, nat2At b 8⟩
    sharedLimits := ⟨nat2At b 10, nat2At b 12, nat2At b 14⟩
    watermarks := ⟨nat2At b 16, nat2At b 18, nat2At b 20, nat2At b 22⟩ }

/-- Clamp each limit. -/
def ClassLimits.clamp (lo hi : Nat) (l : ClassLimits) : ClassLimits :=
  ⟨Machine.clamp lo hi l.entry, Machine.clamp lo hi l.scan, Machine.clamp lo hi l.bulk⟩

/-- Each value brought into its range (R24). -/
def AdmissionSettings.clamped (a : AdmissionSettings) : AdmissionSettings :=
  { reserves := a.reserves.map (clamp 0 32)
    laneLimits := a.laneLimits.clamp 1 256
    sharedLimits := a.sharedLimits.clamp 0 256
    watermarks := a.watermarks.map (clamp 1 256) }

/-- The values as the reply carries them (R207). -/
def AdmissionSettings.bytes (a : AdmissionSettings) : List Byte :=
  a.reserves.toList.flatMap num1 ++
    [a.laneLimits.entry, a.laneLimits.scan, a.laneLimits.bulk, a.sharedLimits.entry, a.sharedLimits.scan,
      a.sharedLimits.bulk].flatMap num2 ++
    a.watermarks.toList.flatMap num2

/-- The events now held fit the division the reserves make (R25). -/
def EventStore.fits (st : EventStore) (reserves : Lanes Nat) : Bool :=
  decide ((laneSum fun q => st.occ q - reserves.get q) ≤ Config.slots - laneSum fun q => reserves.get q)

/-- A queue under its new reserve and watermark. -/
def LaneQueue.resettle (x : LaneQueue) (reserve watermark : Nat) : LaneQueue :=
  { x with reserve := reserve, watermark := watermark }

/-- The store under new settings (R24). -/
def EventStore.withSettings (st : EventStore) (a : AdmissionSettings) : EventStore :=
  { queues :=
      ⟨st.queues.lane0.resettle a.reserves.lane0 a.watermarks.lane0,
        st.queues.lane1.resettle a.reserves.lane1 a.watermarks.lane1,
        st.queues.lane2.resettle a.reserves.lane2 a.watermarks.lane2,
        st.queues.lane3.resettle a.reserves.lane3 a.watermarks.lane3⟩
    laneLimits := a.laneLimits
    sharedLimits := a.sharedLimits }

/-- The occupancies of the four lanes, two bytes each. -/
def EventStore.occBytes (st : EventStore) : List Byte := allLanes.flatMap fun q => num2 (st.occ q)

end Sys2Proof.Machine
end

