-- ==== Sys2Proof/Machine/Monitor.lean ====
section
/-!
DEFINITION. The Interlock Monitors (sections 8.1 to 8.3): the conditions they read, their three states, and the effect
conditions and forces they give, as functions of plain data.
-/

namespace Sys2Proof.Machine

/-- The monitors in index order. -/
def allMonitors : List MonitorId := List.finRange 8

/-! ## Matching (R157) -/

/-- The port a stored parameter names: B for 1, A otherwise. -/
def portParam (b : Byte) : PortId := if b = 1 then .b else .a

/-- The value of the condition a monitor is set to (R157). -/
def State.conditionValue (s : State) (m : MonitorSettings) : Bool :=
  match m.condition with
  | .drawerOpen => (s.drawers.get m.sourceLane).isOpen
  | .drawerFault => (s.drawers.get m.sourceLane).fault
  | .keylockIs => decide ((s.keyboards.get m.sourceLane).keylock.position.index = m.keylockParam.toNat)
  | .scannerNotLocked => ((s.scanners.get m.sourceLane).get (portParam m.portParam)).alignment != .locked
  | .queueAtLeast => decide (m.queueParam ≤ s.store.occ m.sourceLane)
  | .pacing => ((s.meters.get m.sourceLane).get (portParam m.portParam)).holds

/-- The match a monitor should have: false when disabled (R157). -/
def State.matchOf (s : State) (m : MonitorSettings) : Bool := m.enabled && s.conditionValue m == m.sense

/-! ## The three states (R158, R159) -/

/-- What a monitor's transition produces: entry to ACTIVE, departure from it, or neither (R160). -/
inductive MonitorTurn where
  | none
  | entered
  | left (reason : OffReason)
  deriving DecidableEq, Repr

/-- The match becomes true (R158). -/
def Monitor.matchBegins (now : Time) (m : Monitor) : Monitor × MonitorTurn :=
  match m.state with
  | .inactive =>
    if m.settings.qualify = 0 then ({ m with isMatch := true, state := .active }, .entered)
    else ({ m with isMatch := true, state := .qualifying now }, .none)
  | _ => ({ m with isMatch := true }, .none)

/-- The match becomes false (R158, R159). -/
def Monitor.matchEnds (m : Monitor) : Monitor × MonitorTurn :=
  match m.state with
  | .inactive => ({ m with isMatch := false }, .none)
  | .qualifying _ => ({ m with isMatch := false, state := .inactive }, .none)
  | .active =>
    if m.settings.latched then ({ m with isMatch := false }, .none)
    else ({ m with isMatch := false, state := .inactive }, .left .matchEnded)

/-- The monitor takes a change of its match. -/
def Monitor.takeMatch (now : Time) (v : Bool) (m : Monitor) : Monitor × MonitorTurn :=
  if v then m.matchBegins now else m.matchEnds

/-- The time of the qualify expiry (R158). -/
def Monitor.qualifyExpiry (m : Monitor) : Option Time :=
  match m.state with
  | .qualifying start => some (after start (m.settings.qualify * 10))
  | _ => none

/-- The time left to the qualify expiry (R165). -/
def Monitor.timeLeft (now : Time) (m : Monitor) : Nat :=
  match m.qualifyExpiry with
  | some t => if reached now t then 0 else elapsed t now
  | none => 0

/-! ## Effects (R161, R167) -/

/-- The four effects that make conditions. -/
inductive Effect where
  | mute
  | inhibitA
  | inhibitB
  | lockout
  deriving DecidableEq, Repr

/-- The bit of an effect in an effect set (R202). -/
def Effect.bit : Effect → Nat
  | .mute => 0
  | .inhibitA => 1
  | .inhibitB => 2
  | .lockout => 3

/-- The bit of an output's force in an effect set (R202). -/
def forceBit : SignalOut → Nat
  | .lamp => 4
  | .tone => 5

/-- An ACTIVE monitor gives lane q the effect of a bit. -/
def Monitor.gives (m : Monitor) (q : LaneId) (bit : Nat) : Bool :=
  m.state == .active && m.settings.effects.getLsbD bit && m.settings.targets.getLsbD q.val

/-- At least one monitor gives lane q the effect of a bit (R161). -/
def anyGives (ms : Vector Monitor 8) (q : LaneId) (bit : Nat) : Bool := ms.toList.any fun m => m.gives q bit

/-- The effect conditions of lane q (R161). -/
def conditionsOf (ms : Vector Monitor 8) (q : LaneId) : EffectConditions :=
  { muted := anyGives ms q Effect.mute.bit
    lockedOut := anyGives ms q Effect.lockout.bit
    inhibitA := anyGives ms q Effect.inhibitA.bit
    inhibitB := anyGives ms q Effect.inhibitB.bit }

/-- The effect conditions of every lane. -/
def allConditions (ms : Vector Monitor 8) : Lanes EffectConditions :=
  ⟨conditionsOf ms 0, conditionsOf ms 1, conditionsOf ms 2, conditionsOf ms 3⟩

/-- The lowest-numbered ACTIVE monitor that forces an output of lane q (R167). -/
def forcingMonitor (ms : Vector Monitor 8) (q : LaneId) (o : SignalOut) : Option MonitorId :=
  allMonitors.find? fun i => (ms.get i).gives q (forceBit o)

/-- The level of a monitor's force on an output. -/
def MonitorSettings.forceLevel (m : MonitorSettings) : SignalOut → Level
  | .lamp => m.lampLevel
  | .tone => m.toneLevel

/-- The level the forces give an output of lane q, if any (R167). -/
def forceOn (ms : Vector Monitor 8) (q : LaneId) (o : SignalOut) : Option Level :=
  (forcingMonitor ms q o).map fun i => (ms.get i).settings.forceLevel o

/-- The condition of an effect. -/
def EffectConditions.of (c : EffectConditions) : Effect → Bool
  | .mute => c.muted
  | .lockout => c.lockedOut
  | .inhibitA => c.inhibitA
  | .inhibitB => c.inhibitB

/-- The effects of the lanes, in a fixed order. -/
def allEffects : List (LaneId × Effect) :=
  allLanes.flatMap fun q => [(q, .mute), (q, .inhibitA), (q, .inhibitB), (q, .lockout)]

/-- The conditions that changed, each with its lane and its new value. -/
def effectChanges (old new : Lanes EffectConditions) : List ((LaneId × Effect) × Bool) :=
  (allEffects.filter fun x => (old.get x.1).of x.2 != (new.get x.1).of x.2).map fun x => (x, (new.get x.1).of x.2)

/-! ## SET_INTERLOCK (R163) -/

/-- The settings a body carries, tested as test 4 of R163 says; none where an enumeration value does not exist. -/
def monitorSettingsAt (b : List Byte) (source : LaneId) : Option MonitorSettings :=
  match conditionOf (byteAt b 3), levelOf (byteAt b 14), levelOf (byteAt b 15) with
  | some c, some lamp, some tone =>
    let portNamed := c == .scannerNotLocked || c == .pacing
    if isFlag (byteAt b 1) && isFlag (byteAt b 8) && isFlag (byteAt b 11) && maskHas 4 (byteAt b 12) &&
        maskHas 6 (byteAt b 13) && (c != .keylockIs || decide (natAt b 4 < 5)) &&
        (!portNamed || isFlag (byteAt b 5)) then
      some
        { enabled := flagOf (byteAt b 1), sourceLane := source, condition := c, keylockParam := byteAt b 4,
          portParam := byteAt b 5, queueParam := nat2At b 6, sense := flagOf (byteAt b 8), qualify := nat2At b 9,
          latched := flagOf (byteAt b 11), targets := (byteAt b 12).setWidth 4, effects := (byteAt b 13).setWidth 6,
          lampLevel := lamp, toneLevel := tone }
    else none
  | _, _, _ => none

/-- The qualify time and the parameter of QUEUE_AT_LEAST brought into their ranges; the parameter of a condition not
named is kept as given (R163). -/
def MonitorSettings.clamped (m : MonitorSettings) : MonitorSettings :=
  { m with
    qualify := clamp 0 255 m.qualify
    queueParam := if m.condition = .queueAtLeast then clamp 1 256 m.queueParam else m.queueParam }

/-- The settings as the reply carries them (R207). -/
def MonitorSettings.bytes (m : MonitorSettings) : List Byte :=
  [flagByte m.enabled, laneByte m.sourceLane, m.condition.code, m.keylockParam, m.portParam] ++ num2 m.queueParam ++
    [flagByte m.sense] ++ num2 m.qualify ++
    [flagByte m.latched, m.targets.setWidth 8, m.effects.setWidth 8, m.lampLevel.code, m.toneLevel.code]

/-- The monitor as SET_INTERLOCK leaves it before it reads its new condition (R164 steps 1 and 2). -/
def Monitor.rewritten (g : MonitorSettings) : Monitor := { settings := g, isMatch := false, state := .inactive }

end Sys2Proof.Machine
end

