-- ==== Sys2Proof/Machine/Outputs.lean ====
section
/-!
DEFINITION. The Lane Output Unit (sections 8.5, 8.6): the resolution of LAMP, TONE and the inhibits, and the playing of
signal patterns, as functions of plain data.
-/

namespace Sys2Proof.Machine

/-- A level from a flag. -/
def levelWhen (b : Bool) : Level := if b then .on else .off

/-- The level of a host value (R167 step 3). -/
def HostValue.levelAt (now : Time) : HostValue → Level
  | .off => .off
  | .on => .on
  | .blink start => levelWhen (elapsed now start / 500 % 2 == 0)

/-- The level of LAMP or TONE: the force, else the pattern, else the host value (R167). -/
def SignalOutput.levelAt (now : Time) (force : Option Level) (o : SignalOutput) : Level :=
  match force, o.playing with
  | some l, _ => l
  | none, some p => p.current.level
  | none, none => o.host.levelAt now

/-- LAMP or TONE resolved again. -/
def SignalOutput.resolve (now : Time) (force : Option Level) (o : SignalOutput) : SignalOutput :=
  { o with level := o.levelAt now force }

/-- Play a list of steps from a moment on; an empty list plays nothing (R168). -/
def playFrom (t : Time) : List PatternStep → Option Playing
  | [] => none
  | x :: l => some { current := x, rest := l, endTime := after t (x.duration * 10) }

/-- The steps of a pattern that are played (R168). -/
def Pattern.played (p : Pattern) : List PatternStep := p.steps.toList.take p.count

/-- A pattern starts, in place of one running (R168). -/
def SignalOutput.start (now : Time) (p : Pattern) (o : SignalOutput) : SignalOutput :=
  { o with playing := playFrom now p.played }

/-- The running pattern, if any, is ended (R170, R171). -/
def SignalOutput.stop (o : SignalOutput) : SignalOutput := { o with playing := none }

/-- The end of the step being played (R168). -/
def SignalOutput.stepEnd (now : Time) (o : SignalOutput) : SignalOutput :=
  match o.playing with
  | some p => if reached now p.endTime then { o with playing := playFrom p.endTime p.rest } else o
  | none => o

/-- LAMP or TONE of a lane. -/
def LaneOutputs.signal (u : LaneOutputs) : SignalOut → SignalOutput
  | .lamp => u.lamp
  | .tone => u.tone

/-- LAMP or TONE of a lane replaced. -/
def LaneOutputs.withSignal (u : LaneOutputs) (o : SignalOut) (x : SignalOutput) : LaneOutputs :=
  match o with
  | .lamp => { u with lamp := x }
  | .tone => { u with tone := x }

/-- The level of an inhibit output from its four sources (R166). -/
def inhibitLevel (forced enabled holding : Bool) (host : Level) : Level :=
  levelWhen (forced || !enabled || holding || host == .on)

/-! ## SET_PATTERN (R169) -/

/-- Step i of the pattern a body carries; none for a level other than OFF or ON. -/
def patternStepAt (b : List Byte) (i : Nat) : Option PatternStep :=
  (levelOf (byteAt b (2 + 2 * i))).map fun l => { level := l, duration := natAt b (3 + 2 * i) }

/-- The pattern a body carries. -/
def patternAt (b : List Byte) : Option Pattern :=
  match patternStepAt b 0, patternStepAt b 1, patternStepAt b 2, patternStepAt b 3 with
  | some s0, some s1, some s2, some s3 => some { count := natAt b 1, steps := #v[s0, s1, s2, s3] }
  | _, _, _, _ => none

/-- A step with a duration of 0 taken as 1. -/
def PatternStep.clamped (x : PatternStep) : PatternStep := { x with duration := max 1 x.duration }

/-- The step count at most 4, and durations within it at least 1 (R169). -/
def Pattern.clamped (p : Pattern) : Pattern :=
  let n := min 4 p.count
  { count := n
    steps :=
      #v[if 0 < n then (p.steps.get 0).clamped else p.steps.get 0,
        if 1 < n then (p.steps.get 1).clamped else p.steps.get 1,
        if 2 < n then (p.steps.get 2).clamped else p.steps.get 2,
        if 3 < n then (p.steps.get 3).clamped else p.steps.get 3] }

/-- The pattern as the reply carries it (R207). -/
def Pattern.bytes (p : Pattern) : List Byte :=
  num1 p.count ++ p.steps.toList.flatMap fun x => x.level.code :: num1 x.duration

end Sys2Proof.Machine
end

