-- ==== Sys2Proof/Machine/Scanner.lean ====
section
/-!
DEFINITION. The Scanner Port (chapter 4): the receiver and its framing, the judging of frames, the alignment states and
the error window, each as a function of the port's own state. The results are the port and what it hands on, in order.
-/

namespace Sys2Proof.Machine

/-! ## Characters (R79) -/

/-- The character arrives in error: its parity does not hold, or its stop bit was sampled at space. -/
def byteInError (parity : Parity) (value : Byte) (parityBit stopMark : Bool) : Bool :=
  !stopMark ||
    (match parity with
     | .none => false
     | .even => oddOnes value != parityBit
     | .odd => oddOnes value == parityBit)

/-! ## Frames (R81, R84) -/

/-- The byte completes a terminator, given the byte before it in the same frame or skip (R81). -/
def LineFormat.completes (f : LineFormat) (before : Option RxByte) (b : RxByte) : Bool :=
  !b.error &&
    (if f.twoByteTerminator then
       b.value == f.terminator2 &&
         (match before with
          | some x => !x.error && x.value == f.terminator1
          | none => false)
     else b.value == f.terminator1)

/-- The bytes of a terminator. -/
def LineFormat.terminatorLength (f : LineFormat) : Nat := if f.twoByteTerminator then 2 else 1

/-- The bytes of a body before its data: the prefix and the id. -/
def LineFormat.leading (f : LineFormat) : Nat := (if f.prefixOn then 1 else 0) + (if f.idOn then 1 else 0)

/-- The bytes of a body after its data: the LRC. -/
def LineFormat.trailing (f : LineFormat) : Nat := if f.lrcOn then 1 else 0

/-- The length limit of a frame, its terminator included (R84). -/
def LineFormat.lengthLimit (f : LineFormat) (maxData : Nat) : Nat :=
  f.leading + maxData + f.trailing + f.terminatorLength

/-- The causes of a bad frame (R83 to R85). -/
inductive BadCause where
  | wrongPrefix
  | length
  | charset
  | lrc
  | byteError
  | gap
  | overlength
  deriving DecidableEq, Repr

/-- The data of a body. -/
def LineFormat.dataOf (f : LineFormat) (body : List Byte) : List Byte :=
  (body.drop f.leading).take (body.length - f.leading - f.trailing)

/-- The id byte of a body, when the id is enabled. -/
def LineFormat.idOf (f : LineFormat) (body : List Byte) : Option Byte :=
  if f.idOn then body[if f.prefixOn then 1 else 0]? else none

/-- The tests of R85 on the body of a frame, in order; none for a good frame. -/
def LineFormat.causeOf (f : LineFormat) (minData : Nat) (body : List RxByte) : Option BadCause :=
  let values := body.map RxByte.value
  let data := f.dataOf values
  if body.any RxByte.error then some .byteError
  else if f.prefixOn && values.head? != some f.prefixByte then some .wrongPrefix
  else if values.length < f.leading + minData + f.trailing then some .length
  else if data.any fun b => decide (b.toNat < 0x20) || decide (0x7E < b.toNat) then some .charset
  else if f.lrcOn && values.getLast? != some (xorAll ((f.idOf values).toList ++ data)) then some .lrc
  else none

/-- The good frame a body makes. -/
def LineFormat.frameOf (f : LineFormat) (now : Time) (inhibited : Bool) (body : List RxByte) : GoodFrame :=
  let values := body.map RxByte.value
  { id := f.idOf values, data := f.dataOf values, time := now, inhibited := inhibited }

/-- The counter of a cause advances (R85, R104). -/
def PortCounters.addCause (c : PortCounters) : BadCause → PortCounters
  | .wrongPrefix => { c with badPrefix := c.badPrefix + 1 }
  | .length => { c with badLength := c.badLength + 1 }
  | .charset => { c with badCharset := c.badCharset + 1 }
  | .lrc => { c with badLrc := c.badLrc + 1 }
  | .byteError => { c with byteError := c.byteError + 1 }
  | .gap => { c with gap := c.gap + 1 }
  | .overlength => { c with overlength := c.overlength + 1 }

/-! ## Alignment (R86 to R91) -/

/-- Leave LOCKED for HUNT (R91). -/
def ScannerPort.leaveLocked (now : Time) (p : PortId) (reason : LostReason) (s : ScannerPort) :
    ScannerPort × List LaneEffect :=
  ({ s with
      alignment := .hunt
      consecutiveBad := 0
      window := none
      windowCount := 0
      counters := { s.counters with lockLosses := s.counters.lockLosses + 1 } },
    [.produce now (.scannerLost p reason)])

/-- Leave CANDIDATE for HUNT (R88). -/
def ScannerPort.leaveCandidate (s : ScannerPort) : ScannerPort :=
  { s with
    alignment := .hunt
    candidateCount := 0
    hold := []
    counters := { s.counters with heldDiscarded := s.counters.heldDiscarded + BitVec.ofNat 32 s.hold.length } }

/-- Go to HUNT from any state (R80, R96, R97). -/
def ScannerPort.toHunt (now : Time) (p : PortId) (reason : LostReason) (s : ScannerPort) :
    ScannerPort × List LaneEffect :=
  match s.alignment with
  | .hunt => (s, [])
  | .candidate => (s.leaveCandidate, [])
  | .locked => s.leaveLocked now p reason

/-- Enter LOCKED with the frame that completed the lock (R89). -/
def ScannerPort.enterLocked (p : PortId) (f : GoodFrame) (s : ScannerPort) : ScannerPort × List LaneEffect :=
  ({ s with
      alignment := .locked
      candidateCount := 0
      hold := []
      consecutiveBad := 0
      window := some { start := f.time, seconds := s.line.windowSeconds }
      windowCount := 0
      excessReported := false },
    .produce f.time (.scannerLocked p) :: (s.hold ++ [f]).map fun g => .handOn { port := p, frame := g })

/-- A good frame acts on the alignment (R86, R87, R90). -/
def ScannerPort.goodFrame (p : PortId) (f : GoodFrame) (s : ScannerPort) : ScannerPort × List LaneEffect :=
  let s1 := { s with counters := { s.counters with goodFrames := s.counters.goodFrames + 1 } }
  match s.alignment with
  | .hunt =>
    if s.line.lockCount ≤ 1 then s1.enterLocked p f
    else ({ s1 with alignment := .candidate, candidateCount := 1, hold := [f] }, [])
  | .candidate =>
    if s.line.lockCount ≤ s.candidateCount + 1 then s1.enterLocked p f
    else ({ s1 with candidateCount := s.candidateCount + 1, hold := s.hold ++ [f] }, [])
  | .locked => ({ s1 with consecutiveBad := 0 }, [.handOn { port := p, frame := f }])

/-- The count of an item in the window takes the excess (R93). -/
def ScannerPort.excessNow (s : ScannerPort) : Bool :=
  decide (s.line.excessLimit ≤ s.windowCount + 1) && !s.excessReported

/-- An item counts in the error window (R92, R93): the port, and SCANNER_EXCESS if the excess is taken. -/
def ScannerPort.countItem (now : Time) (p : PortId) (s : ScannerPort) : ScannerPort × List LaneEffect :=
  let s1 := { s with windowCount := s.windowCount + 1 }
  if s.excessNow then
    ({ s1 with
        excessReported := true
        counters := { s.counters with excessEvents := s.counters.excessEvents + 1 } },
      [.produce now (.scannerExcess p)])
  else (s1, [])

/-- A bad frame acts on the alignment (R86, R88, R90, R93). -/
def ScannerPort.badFrame (now : Time) (p : PortId) (cause : BadCause) (s : ScannerPort) :
    ScannerPort × List LaneEffect :=
  let s1 := { s with counters := s.counters.addCause cause }
  match s.alignment with
  | .hunt => (s1, [])
  | .candidate => (s1.leaveCandidate, [])
  | .locked =>
    let r := { s1 with consecutiveBad := s.consecutiveBad + 1 }.countItem now p
    if s.line.lossCount ≤ s.consecutiveBad + 1 then
      let r' := r.1.leaveLocked now p .misframes
      (r'.1, r.2 ++ r'.2)
    else if s.excessNow && s.line.rehunt then
      let r' := r.1.leaveLocked now p .excess
      (r'.1, r.2 ++ r'.2)
    else r

/-- The Symbol Checker returns a check failure (R94). -/
def ScannerPort.checkFailure (now : Time) (p : PortId) (s : ScannerPort) : ScannerPort × List LaneEffect :=
  let s1 := { s with counters := { s.counters with checkFailures := s.counters.checkFailures + 1 } }
  match s.alignment with
  | .locked =>
    let r := s1.countItem now p
    if s.excessNow && s.line.rehunt then
      let r' := r.1.leaveLocked now p .excess
      (r'.1, r.2 ++ r'.2)
    else r
  | _ => (s1, [])

/-! ## The receiver (R80 to R85) -/

/-- Drop the frame being received, and skip to the next terminator (R82). -/
def ScannerPort.skip (s : ScannerPort) : ScannerPort := { s with framing := .skipping, bytes := [] }

/-- The frame being received is judged GAP (R83). -/
def ScannerPort.judgeGap (now : Time) (p : PortId) (s : ScannerPort) : ScannerPort × List LaneEffect :=
  s.skip.badFrame now p .gap

/-- A frame is being received in the ALIGNED position. -/
def ScannerPort.inFrame (s : ScannerPort) : Bool :=
  s.receiverOn && s.framing == .aligned && !s.bytes.isEmpty

/-- The gap timer of the frame being received has expired: more than the gap limit has elapsed (R83). -/
def ScannerPort.gapExpired (now : Time) (s : ScannerPort) : Bool :=
  s.inFrame && decide (s.line.gapLimit < elapsed now s.lastByte)

/-- The gap timer expired before this moment, so its expiry comes before what happens now (R83, log 2). -/
def ScannerPort.gapOverdue (now : Time) (s : ScannerPort) : Bool :=
  s.inFrame && decide (s.line.gapLimit + 1 < elapsed now s.lastByte)

/-- A frame whose terminator has completed is judged and acts on the alignment; an empty one is ignored
(R81, R85). -/
def ScannerPort.endFrame (now : Time) (p : PortId) (inhibited : Bool) (minData : Nat) (body : List RxByte)
    (s : ScannerPort) : ScannerPort × List LaneEffect :=
  if body.isEmpty then (s, [])
  else
    match s.line.format.causeOf minData body with
    | some cause => s.badFrame now p cause
    | none => s.goodFrame p (s.line.format.frameOf now inhibited body)

/-- A byte in the SKIPPING position (R82). A terminator counts from the start of the skip, so that the second byte of one
whose first byte came before a resync (R97) does not end the skip: DEDUCED, unsafe (log 26). -/
def ScannerPort.skipByte (b : RxByte) (s : ScannerPort) : ScannerPort :=
  if s.line.format.completes s.bytes.getLast? b then { s with framing := .aligned, bytes := [] }
  else { s with bytes := [b] }

/-- A byte in the ALIGNED position (R82, R84). The data lengths are those held when the frame began (R100). -/
def ScannerPort.frameByte (now : Time) (p : PortId) (inhibited : Bool) (b : RxByte) (s : ScannerPort) :
    ScannerPort × List LaneEffect :=
  let minData := if s.bytes.isEmpty then s.line.minData else s.frameMin
  let maxData := if s.bytes.isEmpty then s.line.maxData else s.frameMax
  let bytes := s.bytes ++ [b]
  let s1 := { s with frameMin := minData, frameMax := maxData, lastByte := now }
  if s.line.format.lengthLimit maxData < bytes.length then
    { s1 with framing := .skipping, bytes := [b] }.badFrame now p .overlength
  else if s.line.format.completes s.bytes.getLast? b then
    { s1 with bytes := [] }.endFrame now p inhibited minData
      (bytes.take (bytes.length - s.line.format.terminatorLength))
  else ({ s1 with bytes := bytes }, [])

/-- A byte arrives (R79, R82): taken while the receiver is on. -/
def ScannerPort.takeByte (now : Time) (p : PortId) (inhibited : Bool) (b : RxByte) (s : ScannerPort) :
    ScannerPort × List LaneEffect :=
  if !s.receiverOn then (s, [])
  else if s.framing = .skipping then (s.skipByte b, [])
  else if s.gapOverdue now then
    let r := s.judgeGap now p
    (r.1.skipByte b, r.2)
  else s.frameByte now p inhibited b

/-- The gap timer expires (R83). -/
def ScannerPort.gapExpiry (now : Time) (p : PortId) (s : ScannerPort) : ScannerPort × List LaneEffect :=
  if s.gapExpired now then s.judgeGap now p else (s, [])

/-- A break (R80): taken while the receiver is on. -/
def ScannerPort.break (now : Time) (p : PortId) (s : ScannerPort) : ScannerPort × List LaneEffect :=
  if s.receiverOn then s.skip.toHunt now p .lineBreak else (s, [])

/-- A boundary of the error windows (R92): the next window starts, with the length now set. -/
def ScannerPort.windowBoundary (now : Time) (s : ScannerPort) : ScannerPort :=
  match s.window with
  | some w =>
    if reached now (after w.start (w.seconds * 1000)) then
      { s with
        window := some { start := after w.start (w.seconds * 1000), seconds := s.line.windowSeconds }
        windowCount := 0
        excessReported := false }
    else s
  | none => s

/-! ## Requests and enables (R96 to R100) -/

/-- Go to HUNT with reason RESYNC, skipping (R97, log 26). -/
def ScannerPort.resync (now : Time) (p : PortId) (s : ScannerPort) : ScannerPort × List LaneEffect :=
  s.skip.toHunt now p .resync

/-- RESET_LANE resyncs the port; a port whose enable is off is not changed (R98). -/
def ScannerPort.laneReset (now : Time) (p : PortId) (s : ScannerPort) : ScannerPort × List LaneEffect :=
  if s.receiverOn then s.resync now p else (s, [])

/-- The port's enable goes from on to off (R96). -/
def ScannerPort.disable (now : Time) (p : PortId) (s : ScannerPort) : ScannerPort × List LaneEffect :=
  let r := s.skip.toHunt now p .disabled
  ({ r.1 with receiverOn := false }, r.2)

/-- The port's enable goes from off to on (R96). -/
def ScannerPort.enable (s : ScannerPort) : ScannerPort := { s.skip with receiverOn := true }

/-- SET_SCANNER_LINE is carried out (R100). A change of the format drops the frame unjudged, older than the new gap limit
or not: DEDUCED, unsafe (log 27). -/
def ScannerPort.configure (now : Time) (p : PortId) (l : LineSettings) (s : ScannerPort) :
    ScannerPort × List LaneEffect :=
  let s1 := { s with line := l }
  if s.receiverOn ∧ s.line.format ≠ l.format then s1.resync now p
  else s1.gapExpiry now p

/-! ## SET_SCANNER_LINE and SET_SCANNER_IDS (R99, R102) -/

/-- The line format of a body; none where an enumeration value does not exist (R99 test 4). -/
def lineFormatAt (b : List Byte) : Option LineFormat :=
  match lineRateOf (byteAt b 2), parityOf (byteAt b 3) with
  | some rate, some parity =>
    if isFlag (byteAt b 4) && isFlag (byteAt b 6) && isFlag (byteAt b 7) &&
        (byteAt b 8 == 1 || byteAt b 8 == 2) then
      some
        { rate := rate, parity := parity, prefixOn := flagOf (byteAt b 4), prefixByte := byteAt b 5,
          idOn := flagOf (byteAt b 6), lrcOn := flagOf (byteAt b 7), twoByteTerminator := byteAt b 8 == 2,
          terminator1 := byteAt b 9, terminator2 := byteAt b 10 }
    else none
  | _, _ => none

/-- The line settings of a body as the request gives them; none as for R99 test 4. -/
def lineSettingsAt (b : List Byte) : Option LineSettings :=
  match lineFormatAt b with
  | some f =>
    if isFlag (byteAt b 19) then
      some
        { format := f, minData := natAt b 11, maxData := natAt b 12, gapLimit := nat2At b 13, lockCount := natAt b 15,
          lossCount := natAt b 16, windowSeconds := natAt b 17, excessLimit := natAt b 18,
          rehunt := flagOf (byteAt b 19) }
    else none
  | none => none

/-- Each setting brought into its range (R99 test 5). -/
def LineSettings.clamped (l : LineSettings) : LineSettings :=
  { l with
    minData := clamp 1 48 l.minData
    maxData := clamp 1 48 l.maxData
    gapLimit := clamp 5 500 l.gapLimit
    lockCount := clamp 1 4 l.lockCount
    lossCount := clamp 2 8 l.lossCount
    windowSeconds := clamp 1 60 l.windowSeconds
    excessLimit := clamp 1 255 l.excessLimit }

/-- The settings as the reply carries them (R207). -/
def LineSettings.bytes (l : LineSettings) : List Byte :=
  [l.format.rate.code, l.format.parity.code, flagByte l.format.prefixOn, l.format.prefixByte,
    flagByte l.format.idOn, flagByte l.format.lrcOn] ++
    num1 l.format.terminatorLength ++ [l.format.terminator1, l.format.terminator2] ++ num1 l.minData ++
    num1 l.maxData ++ num2 l.gapLimit ++ num1 l.lockCount ++ num1 l.lossCount ++ num1 l.windowSeconds ++
    num1 l.excessLimit ++ [flagByte l.rehunt]

/-- Entry i of the id map a body carries: the id and the code of an unused entry read as 0 (R102). -/
def idEntryAt (b : List Byte) (i : Nat) : IdEntry :=
  if byteAt b (2 + 3 * i) = 0 then IdEntry.unused
  else { used := true, id := byteAt b (3 + 3 * i), code := byteAt b (4 + 3 * i) }

/-- The id map a body carries. -/
def idMapAt (b : List Byte) : Vector IdEntry 16 :=
  #v[idEntryAt b 0, idEntryAt b 1, idEntryAt b 2, idEntryAt b 3, idEntryAt b 4, idEntryAt b 5, idEntryAt b 6,
    idEntryAt b 7, idEntryAt b 8, idEntryAt b 9, idEntryAt b 10, idEntryAt b 11, idEntryAt b 12, idEntryAt b 13,
    idEntryAt b 14, idEntryAt b 15]

/-- The used entries of a map. -/
def usedEntries (m : Vector IdEntry 16) : List IdEntry := m.toList.filter IdEntry.used

/-- A used flag that does not exist, a code above 15 in a used entry, or two used entries with one id
(R102 tests 4 and 5). -/
def badIdMap (b : List Byte) : Bool :=
  ((List.range 16).any fun i => !isFlag (byteAt b (2 + 3 * i))) ||
    ((usedEntries (idMapAt b)).any fun e => decide (15 < e.code.toNat)) ||
    !decide ((usedEntries (idMapAt b)).map IdEntry.id).Nodup

end Sys2Proof.Machine
end

