-- ==== Sys2Proof/Machine/Ops.lean ====
section
/-!
DEFINITION. The operations over the whole part that the commands share: free orders, messages and replies, the event
path (classification, admission, waits, READY marks, signals), the outputs, the interlock effects and the settling of the
monitors, the drive supply grants, and the handing on of enables.
-/

namespace Sys2Proof.Machine

/-! ## Free orders (log 5) -/

/-- A list in the order in which its members are taken: free where it has more than one. -/
def State.inOrder {α : Type} (s : State) (l : List α) : List α × State :=
  if l.length < 2 then (l, s)
  else (arrange (Config.freeOrder s.freeIndex) l, { s with freeIndex := s.freeIndex + 1 })

/-! ## Reading the lane's mode (R31, R179) -/

/-- The lane's privilege is ELEVATED (R179). -/
def State.elevated (s : State) (q : LaneId) : Bool :=
  (s.keyboards.get q).keylock.position == .supervisor || (s.keyboards.get q).keylock.position == .service ||
    (s.modes.get q).attendant

/-- The enable of a port. -/
def EnableSet.port (e : EnableSet) : PortId → Bool
  | .a => e.scanA
  | .b => e.scanB

/-! ## Parts of the state -/

/-- The port p of lane q. -/
def State.port (s : State) (q : LaneId) (p : PortId) : ScannerPort := (s.scanners.get q).get p

/-- The port p of lane q replaced. -/
def State.withPort (s : State) (q : LaneId) (p : PortId) (x : ScannerPort) : State :=
  { s with scanners := s.scanners.set q ((s.scanners.get q).set p x) }

/-- The meter of port p of lane q. -/
def State.meter (s : State) (q : LaneId) (p : PortId) : Meter := (s.meters.get q).get p

/-- The meter of port p of lane q replaced. -/
def State.withMeter (s : State) (q : LaneId) (p : PortId) (m : Meter) : State :=
  { s with meters := s.meters.set q ((s.meters.get q).set p m) }

/-- The checker of lane q replaced. -/
def State.withChecker (s : State) (q : LaneId) (c : Checker) : State := { s with checkers := s.checkers.set q c }

/-- The keyboard of lane q replaced. -/
def State.withKeyboard (s : State) (q : LaneId) (k : Keyboard) : State := { s with keyboards := s.keyboards.set q k }

/-- The drawer of lane q replaced. -/
def State.withDrawer (s : State) (q : LaneId) (d : Drawer) : State := { s with drawers := s.drawers.set q d }

/-- The outputs of lane q replaced. -/
def State.withOutputs (s : State) (q : LaneId) (u : LaneOutputs) : State := { s with outputs := s.outputs.set q u }

/-- The queue of lane q replaced. -/
def State.withQueue (s : State) (q : LaneId) (x : LaneQueue) : State := { s with store := s.store.withQueue q x }

/-- The monitor of an index. -/
def State.monitor (s : State) (i : MonitorId) : Monitor := s.interlocks.monitors.get i

/-- The monitor of an index replaced. -/
def State.withMonitor (s : State) (i : MonitorId) (m : Monitor) : State :=
  { s with interlocks := { s.interlocks with monitors := s.interlocks.monitors.set i.val m i.isLt } }

/-! ## Messages (R190, R200) -/

/-- A message joins the transmit path. -/
def State.push (s : State) (m : Message) : State :=
  { s with link := { s.link with transmit := s.link.transmit ++ [m] } }

/-- A reply frame: its body begins with the status and the kind of the request (R200). -/
def replyMessage (tag kind : Byte) (st : Status) (fields : List Byte) (origin : Origin) : Message :=
  { tag := tag, kind := kindReply, body := [st.code, kind] ++ fields, origin := origin }

/-- The kind of AWAIT (R202). -/
def kindAwait : Byte := 0x16

/-- The kind of OPEN_DRAWER (R202). -/
def kindOpenDrawer : Byte := 0x19

/-- The fields of an AWAIT reply (R19, R207). -/
def awaitFields (lane : Byte) (timeout occupancy : Nat) (sequence : Half) (cause : Byte) : List Byte :=
  [lane] ++ num4 timeout ++ num2 occupancy ++ halfBytes sequence ++ [cause]

/-- The lane a body names at its start; none where it holds none or one out of range. -/
def laneHeld (b : List Byte) : Option LaneId := b.head?.bind laneOf

/-- The occupancy an AWAIT reply carries for a body (R207). -/
def State.occHeld (s : State) (b : List Byte) : Nat :=
  match laneHeld b with
  | some q => s.store.occ q
  | none => 0

/-- The timeout a body gives, at most 600000; 0 where the body does not hold it (R17, log 10). -/
def timeoutHeld (b : List Byte) : Nat := if b.length < 6 then 0 else min 600000 (wordAt b 2).toNat

/-- The fields of an AWAIT reply that is a refusal (R200, R207, log 10). -/
def State.awaitRefusal (s : State) (b : List Byte) : List Byte :=
  awaitFields (byteAt b 0) (timeoutHeld b) (s.occHeld b) 0 0

/-- The fields of an OPEN_DRAWER reply (R207, log 10). -/
def State.openFields (s : State) (b : List Byte) : List Byte :=
  [byteAt b 0, byteAt b 1,
    match laneHeld b with
    | some q => (s.drawers.get q).state.code
    | none => 0]

/-- The fields a refusal of a kind carries after its head, where no rule has named others (R200, R207). -/
def State.refusalFields (s : State) (kind : Byte) (b : List Byte) : List Byte :=
  if kind = kindAwait then s.awaitRefusal b else if kind = kindOpenDrawer then s.openFields b else []

/-! ## Requests (R189, R192) -/

/-- What the owner of a request answers: a reply to be made now, or nothing more (a deferred AWAIT, R18; RESET_PART,
which makes its reply within its own steps, R198). -/
inductive Answer where
  | reply (st : Status) (fields : List Byte)
  | noReply
  deriving DecidableEq, Repr

/-- A refusal that carries no fields. -/
def refuse (s : State) (st : Status) : State × Answer := (s, .reply st [])

/-- The reply to a request taken is made (R190). -/
def State.answer (tag kind : Byte) (r : State × Answer) : State :=
  match r.2 with
  | .reply st fields => r.1.push (replyMessage tag kind st fields .taken)
  | .noReply => r.1

/-- A request is taken: a tag of 0 is refused, and otherwise its owner carries it out (R189). -/
def State.takeWith (s : State) (kind tag : Byte) (b : List Byte)
    (rule : Byte → List Byte → State → State × Answer) : State :=
  if tag = 0 then State.answer tag kind (s, .reply .badArgument (s.refusalFields kind b))
  else State.answer tag kind (rule tag b s)

/-- The tests most rules begin with: the body length, then the lane in its first byte. -/
def laneRule (n : Nat) (f : LaneId → List Byte → State → State × Answer) (_tag : Byte) (b : List Byte) (s : State) :
    State × Answer :=
  if b.length ≠ n then refuse s .badArgument
  else
    match laneOf (byteAt b 0) with
    | none => refuse s .badLane
    | some q => f q b s

/-- The tests of the rules that name a lane and a port: the length, the lane, the port. -/
def portRule (n : Nat) (f : LaneId → PortId → List Byte → State → State × Answer) (tag : Byte) (b : List Byte)
    (s : State) : State × Answer :=
  laneRule n
    (fun q b s =>
      match portOf (byteAt b 1) with
      | none => refuse s .badArgument
      | some p => f q p b s)
    tag b s

/-! ## Waits (R18 to R23) -/

/-- The pending wait w of lane q completes (R19 to R23). -/
def State.completeWait (s : State) (q : LaneId) (w : Wait) (st : Status) (sequence : Half) (cause : Byte) : State :=
  { s with store := s.store.setWait q none }.push
    (replyMessage w.tag kindAwait st (awaitFields (laneByte q) w.timeout (s.store.occ q) sequence cause) .deferred)

/-- The pending wait of lane q is tested against an event admitted with a sequence (R20). -/
def State.testWait (s : State) (q : LaneId) (src : Source) (sequence : Half) : State :=
  match (s.store.queues.get q).wait with
  | some w => if inSources w.sources src then s.completeWait q w (carriedOut (!w.clamped)) sequence 0 else s
  | none => s

/-- The cancel causes of an AWAIT reply (R202). -/
def causeCancelRequest : Byte := 0

/-- The cancel cause of RESET_LANE (R202). -/
def causeLaneReset : Byte := 1

/-- The pending wait of lane q, if any, is cancelled (R22, R23). -/
def State.cancelWait (s : State) (q : LaneId) (cause : Byte) : State :=
  match (s.store.queues.get q).wait with
  | some w => s.completeWait q w .cancelled 0 cause
  | none => s

/-- Lane q joins the READY-pending set if its admission says so (R13, R191). -/
def State.markReady (s : State) (q : LaneId) (before : Nat) : State :=
  if marksReady (s.store.queues.get q).watermark before (s.store.occ q) then
    { s with link := { s.link with readyPending := s.link.readyPending ||| BitVec.twoPow 4 q.val } }
  else s

/-! ## Outputs (R166 to R168) -/

/-- LAMP or TONE of lane q is changed and resolved again (R167). -/
def State.updateSignal (s : State) (q : LaneId) (o : SignalOut) (f : SignalOutput → SignalOutput) : State :=
  let u := s.outputs.get q
  s.withOutputs q (u.withSignal o ((f (u.signal o)).resolve s.time (forceOn s.interlocks.monitors q o)))

/-- LAMP and TONE of every lane are resolved again (R167). -/
def State.resolveSignals (s : State) : State :=
  allLanes.foldl (fun s q => (s.updateSignal q .lamp id).updateSignal q .tone id) s

/-- The forced condition of a port. -/
def EffectConditions.forced (c : EffectConditions) : PortId → Bool
  | .a => c.inhibitA
  | .b => c.inhibitB

/-- The inhibit output of a port is resolved again (R166). -/
def State.resolveInhibit (s : State) (q : LaneId) (p : PortId) : State :=
  let u := s.outputs.get q
  let x := u.inhibits.get p
  s.withOutputs q
    { u with
      inhibits :=
        u.inhibits.set p
          { x with
            level :=
              inhibitLevel ((s.interlocks.conditions.get q).forced p) ((s.modes.get q).current.port p)
                (s.meter q p).holds x.host } }

/-- The resolved inhibit output of a port is asserted. -/
def State.inhibited (s : State) (q : LaneId) (p : PortId) : Bool := ((s.outputs.get q).inhibits.get p).level == .on

/-- The signal pattern of an index (R168). -/
def State.pattern (s : State) (n : Nat) : Pattern := s.patterns.toList.getD n Pattern.reset

/-- The SIGNAL action of an admitted event, if any, starts its pattern on the lane's output (R42, R168). -/
def State.startSignal (s : State) (q : LaneId) : Option (SignalOut × Nat) → State
  | some (o, n) => s.updateSignal q o (SignalOutput.start s.time (s.pattern n))
  | none => s

/-! ## The event path (R44) -/

/-- An event is offered to the queue of lane d (R5, R10, R12): if it is admitted, the wait and the watermark of that
lane are tested, and the SIGNAL action plays on the source lane. -/
def State.offerEvent (s : State) (d : LaneId) (e : Event) (signal : Option (SignalOut × Nat)) : State :=
  let r := s.store.offer d e (d != e.lane)
  let s1 := { s with store := r.1 }
  if r.2 then
    ((s1.testWait d e.body.source (s.store.queues.get d).nextSequence).markReady d (s.store.occ d)).startSignal e.lane
      signal
  else s1

/-- The event as its classification leaves it (R31, R39 to R41). -/
def State.classified (s : State) (q : LaneId) (t : Time) (b : EventBody) (a : Actions) : Event :=
  { lane := q, time := t, body := s.table.decoded b a.decode, cls := a.cls,
    keylock := (s.keyboards.get q).keylock.position, tag := a.tag }

/-- The result of the search for an event of lane q (R31, R37). -/
def State.actionsFor (s : State) (q : LaneId) (b : EventBody) : Actions :=
  s.table.search
    { lane := q, body := b, keylock := (s.keyboards.get q).keylock.position, elevated := s.elevated q }

/-- An event of lane q is produced: it is classified, and discarded or offered (R44). -/
def State.produce (s : State) (q : LaneId) (t : Time) (b : EventBody) : State :=
  let a := s.actionsFor q b
  let s1 := { s with table := s.table.counted a.count }
  match a.dispose with
  | .discard => { s1 with store := s1.store.countFiltered q }
  | .deliver => s1.offerEvent q (s.classified q t b a) a.signal
  | .redirect d => s1.offerEvent d (s.classified q t b a) a.signal

/-- One thing a block of lane q hands on. -/
def State.performOne (q : LaneId) (s : State) : LaneEffect → State
  | .produce t b => s.produce q t b
  | .handOn x => s.withChecker q { s.checkers.get q with inbox := (s.checkers.get q).inbox ++ [x] }
  | .emptyRecent => s.withChecker q { s.checkers.get q with recent := [] }

/-- What a block of lane q hands on, in order. -/
def State.perform (s : State) (q : LaneId) (l : List LaneEffect) : State := l.foldl (State.performOne q) s

/-! ## The blocks of a lane -/

/-- The Key Matrix Unit of lane q takes one of its events. -/
def State.keyboardDoes (s : State) (q : LaneId) (f : Keyboard → Keyboard × List LaneEffect) : State :=
  let r := f (s.keyboards.get q)
  (s.withKeyboard q r.1).perform q r.2

/-- A Scanner Port takes one of its events. -/
def State.portDoes (s : State) (q : LaneId) (p : PortId) (f : ScannerPort → ScannerPort × List LaneEffect) : State :=
  let r := f (s.port q p)
  (s.withPort q p r.1).perform q r.2

/-- The Drawer Controller of lane q takes one of its events. -/
def State.drawerDoes (s : State) (q : LaneId) (f : Drawer → Drawer × List LaneEffect) : State :=
  let r := f (s.drawers.get q)
  (s.withDrawer q r.1).perform q r.2

/-- A QUEUED drawer's request is withdrawn and given up (R148 to R150). -/
def State.abandonOpen (s : State) (q : LaneId) (t : Time) (reason : AbandonReason) : State :=
  { s with arbiter := s.arbiter.withdraw q }.drawerDoes q (Drawer.abandon t reason)

/-- The counters of port p of lane q after a change. -/
def State.countPort (s : State) (q : LaneId) (p : PortId) (f : PortCounters → PortCounters) : State :=
  s.withPort q p { s.port q p with counters := f (s.port q p).counters }

/-! ## The drive supply (R140, R141) -/

/-- A waiting request of lane q is eligible: its drawer is not cooling and its DRAWER enable is on. -/
def State.eligible (s : State) (q : LaneId) : Bool :=
  !(s.drawers.get q).cooling s.time && (s.modes.get q).current.drawer

/-- One grant, if a slot is free and an eligible request waits. -/
def State.grantOne (s : State) : State :=
  match s.arbiter.grant s.eligible with
  | some (q, a) => { s with arbiter := a }.withDrawer q ((s.drawers.get q).drive s.time)
  | none => s

/-- The arbiter tests the waiting list: at most its two slots can be granted. -/
def State.grantAll (s : State) : State := s.grantOne.grantOne

/-! ## Interlock effects (R160, R161) -/

/-- The start of a mute or a lockout, or a start or end of a forced inhibit, is handed on (R66, R149, R166). -/
def State.handEffect (s : State) (x : (LaneId × Effect) × Bool) : State :=
  match x with
  | ((q, .mute), true) =>
    if (s.modes.get q).current.keyboard then s.keyboardDoes q (Keyboard.muteStart s.time) else s
  | ((_, .mute), false) => s
  | ((q, .lockout), true) => if (s.drawers.get q).isQueued then s.abandonOpen q s.time .lockout else s
  | ((_, .lockout), false) => s
  | ((q, .inhibitA), _) => s.resolveInhibit q .a
  | ((q, .inhibitB), _) => s.resolveInhibit q .b

/-- The effect conditions are recomputed from the monitors; the outputs are resolved, and what changed is handed on in
a free order (R161, R167). -/
def State.refreshEffects (s : State) : State :=
  let new := allConditions s.interlocks.monitors
  let changes := effectChanges s.interlocks.conditions new
  let r := ({ s with interlocks := { s.interlocks with conditions := new } }.resolveSignals).inOrder changes
  r.1.foldl State.handEffect r.2

/-- A monitor's event is produced for its source lane (R160). -/
def State.monitorEvent (s : State) (i : MonitorId) (t : Time) (b : EventBody) : State :=
  s.produce (s.monitor i).settings.sourceLane t b

/-- The monitor i becomes m by a transition at time t (R158, R160): an entry produces INTERLOCK_ON and then starts its
effects, a departure ends its effects and produces INTERLOCK_OFF. -/
def State.turnMonitor (s : State) (i : MonitorId) (t : Time) (r : Monitor × MonitorTurn) : State :=
  let s1 := s.withMonitor i r.1
  match r.2 with
  | .none => s1
  | .entered => (s1.monitorEvent i t (.interlockOn i)).refreshEffects
  | .left reason => s1.refreshEffects.monitorEvent i t (.interlockOff i reason)

/-- The enabled monitors whose match is not what their condition now gives: each has a change to take (R157). -/
def State.stale (s : State) : List MonitorId :=
  allMonitors.filter fun i => (s.monitor i).settings.enabled && (s.monitor i).isMatch != s.matchOf (s.monitor i).settings

/-- The enabled monitors whose conditions give another match in t than in s: each has that change to take (R157). -/
def State.rematched (s t : State) : List MonitorId :=
  allMonitors.filter fun i =>
    (s.monitor i).settings.enabled && s.matchOf (s.monitor i).settings != t.matchOf (s.monitor i).settings

/-- The monitor i takes one change of its condition: its match becomes the other value (R157, R158). -/
def State.takeChange (s : State) (i : MonitorId) : State :=
  s.turnMonitor i s.time ((s.monitor i).takeMatch s.time (!(s.monitor i).isMatch))

/-- Monitors take the changes due to them, one change at a time in a free order. What a turn changes in the conditions
is due beside the rest, so that a monitor takes every change of its condition, one that is undone before its turn too
(R157). The number bounds the changes (log 6, log 20). -/
def State.settleFor : Nat → List MonitorId → State → State
  | 0, _, s => s
  | n + 1, due, s =>
    let r := s.inOrder due
    match r.1 with
    | [] => s
    | i :: rest =>
      let t := r.2.takeChange i
      State.settleFor n (rest ++ s.rematched t) t

/-- The monitors take the changes a command has caused, and those that follow from them. A monitor takes at most two, so
sixteen are enough (log 20). -/
def State.settle (s : State) : State := State.settleFor 16 s.stale s

/-! ## Enables (R174) -/

/-- The four enables. -/
inductive Enable where
  | keyboard
  | scan (port : PortId)
  | drawer
  deriving DecidableEq, Repr

/-- The value of an enable in a set. -/
def EnableSet.of (e : EnableSet) : Enable → Bool
  | .keyboard => e.keyboard
  | .scan p => e.port p
  | .drawer => e.drawer

/-- The enables that differ, each with its new value. -/
def enableChanges (old new : EnableSet) : List (Enable × Bool) :=
  ([.keyboard, .scan .a, .scan .b, .drawer].filter fun e => old.of e != new.of e).map fun e => (e, new.of e)

/-- The set with one enable changed. -/
def EnableSet.withEnable (e : EnableSet) (x : Enable) (v : Bool) : EnableSet :=
  match x with
  | .keyboard => { e with keyboard := v }
  | .scan .a => { e with scanA := v }
  | .scan .b => { e with scanB := v }
  | .drawer => { e with drawer := v }

/-- One enable of the current set of lane q changed. -/
def State.withEnable (s : State) (q : LaneId) (x : Enable) (v : Bool) : State :=
  let m := s.modes.get q
  { s with modes := s.modes.set q { m with current := m.current.withEnable x v } }

/-- A changed enable is handed to the blocks that act on it (R68, R69, R96, R151, R166). -/
def State.handEnable (q : LaneId) (s : State) (x : Enable × Bool) : State :=
  match x with
  | (.keyboard, true) => s.withKeyboard q (s.keyboards.get q).enable
  | (.keyboard, false) => s.keyboardDoes q (Keyboard.disable s.time)
  | (.scan p, true) => (s.withPort q p (s.port q p).enable).resolveInhibit q p
  | (.scan p, false) => (s.portDoes q p (ScannerPort.disable s.time p)).resolveInhibit q p
  | (.drawer, true) => s.grantAll
  | (.drawer, false) => s

/-- One enable of the current set changes, and is handed on (R174). -/
def State.switchEnable (q : LaneId) (s : State) (x : Enable × Bool) : State :=
  (State.handEnable q (s.withEnable q x.1 x.2) x).settle

/-- The current enable set of lane q becomes a new one: each changed enable changes and is handed on, one after another
in a free order (R174, log 23). -/
def State.setCurrent (s : State) (q : LaneId) (new : EnableSet) : State :=
  let r := s.inOrder (enableChanges (s.modes.get q).current new)
  r.1.foldl (State.switchEnable q) r.2

/-- Attendant mode of lane q ends (R177): the flag is cleared, ATTENDANT_OFF is produced, the saved set restored. -/
def State.leaveAttendant (s : State) (q : LaneId) (reason : LeaveReason) : State :=
  let s1 := { s with modes := s.modes.set q { s.modes.get q with attendant := false } }
  let s2 := (s1.produce q s.time (.attendantOff reason)).settle
  s2.setCurrent q (s.modes.get q).saved

end Sys2Proof.Machine
end

