-- ==== Sys2Proof/Machine/DrawerEvents.lean ====
section
/-!
DEFINITION. The events of the Drawer Controller (chapter 7): its timers and the samples of its sense switch.
-/

namespace Sys2Proof.Machine

/-- The pulse end is reached in DRIVING: the slot is freed, and the arbiter tests the waiting list (R142). -/
def execPulseEnd (lane : LaneId) (s : State) : Host.Outcome State Fault Refusal :=
  .next
    (match (s.drawers.get lane).pulseDue s.time with
     | some e =>
       ({ s with arbiter := s.arbiter.release lane }.withDrawer lane ((s.drawers.get lane).pulseEnded e)).grantAll
     | none => s)

/-- The cooldown end is reached: the cooldown end time becomes none, and the arbiter tests the waiting list (R142). -/
def execCooldownEnd (lane : LaneId) (s : State) : Host.Outcome State Fault Refusal :=
  .next
    (if (s.drawers.get lane).cooldownDue s.time then
       (s.withDrawer lane { s.drawers.get lane with cooldownEnd := none }).grantAll
     else s)

/-- An accepted open of the sense switch (R143, R144): a drive is cut and its slot freed, a waiting request is
withdrawn, the drawer is OPEN, and the arbiter tests the waiting list. The grant comes before the monitors take the
open, and so before a lockout it starts (R140 lets either be first): DESIGN CHOICE, unsafe (log 6). -/
def State.senseOpened (s : State) (q : LaneId) : State :=
  ({ s with arbiter := (s.arbiter.release q).withdraw q }.drawerDoes q (Drawer.senseOpened s.time)).grantAll

/-- A sample of the sense switch (R136): an accepted change opens the drawer or closes it (R143, R144, R147). -/
def State.sampleSense (s : State) (q : LaneId) (raw : Bool) : State :=
  let r := (s.drawers.get q).sampleSense s.time raw
  let s1 := s.withDrawer q r.1
  if r.2 then
    (if raw then s1.senseOpened q else s1.drawerDoes q (Drawer.senseClosed s.time)).settle
  else s1

/-- A sample of the sense switch that reads open (R136, R143, R144). -/
def execDrawerSenseOpen (lane : LaneId) (s : State) : Host.Outcome State Fault Refusal :=
  .next (s.sampleSense lane true)

/-- A sample of the sense switch that reads closed (R136, R147). -/
def execDrawerSenseClose (lane : LaneId) (s : State) : Host.Outcome State Fault Refusal :=
  .next (s.sampleSense lane false)

/-- The confirm expiry (R145). -/
def execConfirmExpiry (lane : LaneId) (s : State) : Host.Outcome State Fault Refusal :=
  .next (s.drawerDoes lane (Drawer.confirmExpired s.time)).settle

/-- The queue expiry of a QUEUED drawer: its request is withdrawn and abandoned (R148). -/
def execQueueExpiry (lane : LaneId) (s : State) : Host.Outcome State Fault Refusal :=
  .next
    (match (s.drawers.get lane).queueDue s.time with
     | some e => (s.abandonOpen lane e .queueTimeout).settle
     | none => s)

/-- The left-open alarm (R146). -/
def execLeftOpen (lane : LaneId) (s : State) : Host.Outcome State Fault Refusal :=
  .next (s.drawerDoes lane (Drawer.leftOpenExpired s.time)).settle

end Sys2Proof.Machine
end

