-- ==== Sys2Proof/Machine/KeyEvents.lean ====
section
/-!
DEFINITION. The events of the Key Matrix Unit (chapter 3): samples of the matrix and of the key lock, the typematic
repeat, and the key-lock fault.
-/

namespace Sys2Proof.Machine

/-- A sample of the matrix with debounce (R54 to R56): taken while the KEYBOARD enable is on, and not as a first sample
(R69). The monitors take what its events bring about before the typematic test of the sample, which is a command of its
own (log 16); so a mute that these events start comes first, and a REPEAT due at the sample is not produced: DESIGN
CHOICE, unsafe (log 30). -/
def execKeyChangeAccepted (lane : LaneId) (raw : BitVec 128) (s : State) : Host.Outcome State Fault Refusal :=
  .next
    (if (s.modes.get lane).current.keyboard && !(s.keyboards.get lane).firstSample then
       (s.keyboardDoes lane (Keyboard.sample s.time (s.interlocks.conditions.get lane).muted raw)).settle
     else s)

/-- The typematic test of a sample (R65). It is this command, sent after KEY_CHANGE_ACCEPTED of the same moment: DESIGN
CHOICE, safe (log 16); it finds what the monitors made of that sample's events: DESIGN CHOICE, unsafe (log 30). -/
def execTypematicRepeat (lane : LaneId) (s : State) : Host.Outcome State Fault Refusal :=
  .next (s.keyboardDoes lane (Keyboard.typematicTest s.time)).settle

/-- The first sample after an enable or a restart (R69). -/
def execFirstSampleAbsorb (lane : LaneId) (raw : BitVec 128) (s : State) : Host.Outcome State Fault Refusal :=
  .next
    (if (s.modes.get lane).current.keyboard && (s.keyboards.get lane).firstSample then
       s.withKeyboard lane ((s.keyboards.get lane).firstSampleTaken s.time raw)
     else s)

/-- A sample of the key-lock inputs (R71 to R73): taken whatever the enables. -/
def execKeylockPatternAccepted (lane : LaneId) (inputs : BitVec 4) (s : State) : Host.Outcome State Fault Refusal :=
  .next (s.keyboardDoes lane (Keyboard.keylockSample s.time inputs)).settle

/-- The fault timer of the key lock runs out (R73). The test that follows the pattern acceptance of a sample is this
command, sent after KEYLOCK_PATTERN_ACCEPTED of the same moment: DESIGN CHOICE, safe (log 16). -/
def execKeylockFault (lane : LaneId) (s : State) : Host.Outcome State Fault Refusal :=
  .next (s.keyboardDoes lane (Keyboard.keylockFaultTest s.time)).settle

end Sys2Proof.Machine
end

