-- ==== Sys2Proof/Machine/DrawerRequests.lean ====
section
/-!
DEFINITION. The requests of the Drawer Controller (chapter 7): SET_DRAWER, OPEN_DRAWER.
-/

namespace Sys2Proof.Machine

/-- SET_DRAWER (R154): the settings are replaced and the fault flag is cleared. -/
def setDrawerRule : Byte → List Byte → State → State × Answer :=
  laneRule 12 fun q b s =>
    let given := drawerSettingsAt b
    let g := given.clamped
    let d := s.drawers.get q
    ((s.withDrawer q { d with settings := g, fault := false }).settle,
      .reply (carriedOut (g == given)) (laneByte q :: g.bytes ++ [flagByte d.fault]))

/-- SET_DRAWER taken. -/
def execSetDrawer (tag : Byte) (body : List Byte) (s : State) : Host.Outcome State Fault Refusal :=
  .next (s.takeWith 0x18 tag body setDrawerRule)

/-- The reason needs a privilege or a key-lock position the lane does not have (R137 test 6): NO_SALE is 1, SERVICE
is 2 (R202). -/
def State.reasonRefused (s : State) (q : LaneId) (reason : Byte) : Bool :=
  (reason == 1 && !s.elevated q) || (reason == 2 && (s.keyboards.get q).keylock.position != .service)

/-- Tests 3 to 7 of R137, in order; none if all pass. -/
def State.openRefusal (s : State) (q : LaneId) (reason : Byte) : Option Status :=
  if 2 < reason.toNat then some .badArgument
  else if !(s.modes.get q).current.drawer then some .disabled
  else if (s.interlocks.conditions.get q).lockedOut then some .interlocked
  else if s.reasonRefused q reason then some .privilege
  else if (s.drawers.get q).state ≠ .closed then some .busy
  else none

/-- An OPEN_DRAWER is accepted: the drawer is QUEUED, its request joins the waiting list, and a grant may follow
(R138, R140). -/
def State.acceptOpen (s : State) (q : LaneId) : State :=
  ({ s with arbiter := s.arbiter.join q }.withDrawer q ((s.drawers.get q).enqueue s.time)).grantAll

/-- OPEN_DRAWER (R137, R138). The reply to an accepted request carries the state QUEUED, 1. -/
def openDrawerRule (_tag : Byte) (b : List Byte) (s : State) : State × Answer :=
  if b.length ≠ 2 then (s, .reply .badArgument (s.openFields b))
  else
    match laneOf (byteAt b 0) with
    | none => (s, .reply .badLane (s.openFields b))
    | some q =>
      match s.openRefusal q (byteAt b 1) with
      | some st => (s, .reply st (s.openFields b))
      | none => (s.acceptOpen q, .reply .ok [laneByte q, byteAt b 1, 1])

/-- OPEN_DRAWER taken. -/
def execOpenDrawer (tag : Byte) (body : List Byte) (s : State) : Host.Outcome State Fault Refusal :=
  .next (s.takeWith 0x19 tag body openDrawerRule)

end Sys2Proof.Machine
end

