-- ==== Sys2Proof/Machine/KeyRequests.lean ====
section
/-!
DEFINITION. The requests of the Key Matrix Unit (chapter 3): SET_KEYBOARD, SET_KEYS.
-/

namespace Sys2Proof.Machine

/-- The settings a body carries (R207). -/
def keyboardSettingsAt (b : List Byte) : KeyboardSettings :=
  { rows := natAt b 1, columns := natAt b 2, grain10 := flagOf (byteAt b 3), debounceCount := natAt b 4,
    rolloverLimit := natAt b 5, typematicDelay := nat2At b 6, typematicInterval := nat2At b 8,
    keylockCount := natAt b 10, keylockFaultTime := nat2At b 11 }

/-- Each setting brought into its range (R75). -/
def KeyboardSettings.clamped (g : KeyboardSettings) : KeyboardSettings :=
  { rows := clamp 1 8 g.rows, columns := clamp 1 16 g.columns, grain10 := g.grain10,
    debounceCount := clamp 1 255 g.debounceCount, rolloverLimit := clamp 2 10 g.rolloverLimit,
    typematicDelay := clamp 200 2000 g.typematicDelay, typematicInterval := clamp 30 1000 g.typematicInterval,
    keylockCount := clamp 1 255 g.keylockCount, keylockFaultTime := clamp 100 2000 g.keylockFaultTime }

/-- The settings as the reply carries them (R207). -/
def KeyboardSettings.bytes (g : KeyboardSettings) : List Byte :=
  num1 g.rows ++ num1 g.columns ++ [flagByte g.grain10] ++ num1 g.debounceCount ++ num1 g.rolloverLimit ++
    num2 g.typematicDelay ++ num2 g.typematicInterval ++ num1 g.keylockCount ++ num2 g.keylockFaultTime

/-- SET_KEYBOARD (R75, R76). -/
def setKeyboardRule : Byte → List Byte → State → State × Answer :=
  laneRule 13 fun q b s =>
    if isFlag (byteAt b 3) then
      let given := keyboardSettingsAt b
      let g := given.clamped
      ((s.keyboardDoes q (Keyboard.configure s.time (s.modes.get q).current.keyboard g)).settle,
        .reply (carriedOut (g == given)) (laneByte q :: g.bytes))
    else refuse s .badArgument

/-- SET_KEYBOARD taken. -/
def execSetKeyboard (tag : Byte) (body : List Byte) (s : State) : Host.Outcome State Fault Refusal :=
  .next (s.takeWith 0x07 tag body setKeyboardRule)

/-- Entry i of a SET_KEYS body (R207). -/
def keyEntryAt (b : List Byte) (i : Nat) : KeyEntry :=
  { code := byteAt b (3 + 2 * i), repeatable := (byteAt b (4 + 2 * i)).getLsbD 0,
    repeatRelease := (byteAt b (4 + 2 * i)).getLsbD 1 }

/-- The entries of a SET_KEYS body. -/
def keyEntriesAt (b : List Byte) : List KeyEntry := (List.range (natAt b 2)).map (keyEntryAt b)

/-- SET_KEYS (R58). -/
def setKeysRule (_tag : Byte) (b : List Byte) (s : State) : State × Answer :=
  if natAt b 2 = 0 ∨ 64 < natAt b 2 ∨ b.length ≠ 3 + 2 * natAt b 2 then refuse s .badArgument
  else
    match laneOf (byteAt b 0) with
    | none => refuse s .badLane
    | some q =>
      if 128 < natAt b 1 + natAt b 2 then refuse s .badIndex
      else if (List.range (natAt b 2)).any fun i => !maskHas 2 (byteAt b (4 + 2 * i)) then refuse s .badArgument
      else
        (s.withKeyboard q (Keyboard.writeEntries (natAt b 1) (keyEntriesAt b) (s.keyboards.get q)),
          .reply .ok [laneByte q, byteAt b 1, byteAt b 2])

/-- SET_KEYS taken. -/
def execSetKeys (tag : Byte) (body : List Byte) (s : State) : Host.Outcome State Fault Refusal :=
  .next (s.takeWith 0x08 tag body setKeysRule)

end Sys2Proof.Machine
end

