-- ==== Sys2Proof/Machine/LaneRequests.lean ====
section
/-!
DEFINITION. The requests of the Lane Mode Unit (chapter 9): RESET_LANE, SET_LANE_ENABLES, READ_LANE_STATUS,
ENTER_ATTENDANT, LEAVE_ATTENDANT.
-/

namespace Sys2Proof.Machine

/-! ## RESET_LANE (R181) -/

/-- Step 1: the queue is flushed and the pending wait is ended (R28). -/
def State.resetLaneQueue (s : State) (q : LaneId) : State :=
  (s.withQueue q (s.store.queues.get q).flush).cancelWait q causeLaneReset

/-- Step 2: patterns end (R171). The monitors then take the changes the flush has caused, so that a SIGNAL of an event
they produce starts its pattern after the patterns have ended (R181, log 6). -/
def State.resetLanePatterns (s : State) (q : LaneId) : State :=
  ((s.updateSignal q .lamp SignalOutput.stop).updateSignal q .tone SignalOutput.stop).settle

/-- Steps 3 and 4: the recent-symbol list is emptied (R116), the matrix restarts (R70). -/
def State.resetLaneUnits (s : State) (q : LaneId) : State :=
  let s3 := s.withChecker q { s.checkers.get q with recent := [] }
  s3.withKeyboard q (s3.keyboards.get q).restart

/-- Step 5: the ports go to HUNT (R98), in a free order. -/
def State.resetLanePorts (s : State) (q : LaneId) : State :=
  let r := s.inOrder [PortId.a, PortId.b]
  r.1.foldl (fun s p => (s.portDoes q p (ScannerPort.laneReset s.time p)).settle) r.2

/-- Step 6: a QUEUED drawer request is withdrawn (R150). -/
def State.resetLaneDrawer (s : State) (q : LaneId) : State :=
  if (s.drawers.get q).isQueued then (s.abandonOpen q s.time .laneReset).settle else s

/-- Step 7: attendant mode ends (R177). -/
def State.resetLaneMode (s : State) (q : LaneId) : State :=
  if (s.modes.get q).attendant then s.leaveAttendant q .laneReset else s

/-- RESET_LANE (R181). -/
def resetLaneRule : Byte → List Byte → State → State × Answer :=
  laneRule 1 fun q _ s =>
    let s5 := (((s.resetLaneQueue q).resetLanePatterns q).resetLaneUnits q).resetLanePorts q
    let s6 := s5.resetLaneDrawer q
    let s7 := s6.resetLaneMode q
    (s7,
      .reply .ok
        [laneByte q, flagByte (s6.modes.get q).attendant, flagByte (s5.drawers.get q).isQueued,
          (s7.modes.get q).current.mask])

/-- RESET_LANE taken. -/
def execResetLane (tag : Byte) (body : List Byte) (s : State) : Host.Outcome State Fault Refusal :=
  .next (s.takeWith 0x04 tag body resetLaneRule)

/-! ## SET_LANE_ENABLES (R175) -/

/-- The set is written where the target and the attendant flag say; the mask of the sets written is the second
component (R175, R202). -/
def State.writeEnables (s : State) (q : LaneId) (toAttendant : Bool) (e : EnableSet) : State × Byte :=
  let m := s.modes.get q
  match toAttendant, m.attendant with
  | false, false => (s.setCurrent q e, 1)
  | false, true => ({ s with modes := s.modes.set q { m with saved := e } }, 2)
  | true, false => ({ s with modes := s.modes.set q { m with attendantSet := e } }, 4)
  | true, true => ({ s with modes := s.modes.set q { m with attendantSet := e } }.setCurrent q e, 5)

/-- SET_LANE_ENABLES (R175). -/
def setLaneEnablesRule : Byte → List Byte → State → State × Answer :=
  laneRule 3 fun q b s =>
    if isFlag (byteAt b 1) && maskHas 4 (byteAt b 2) then
      let r := s.writeEnables q (flagOf (byteAt b 1)) (enableSetOf (byteAt b 2))
      (r.1,
        .reply .ok
          [laneByte q, byteAt b 1, r.2, (r.1.modes.get q).current.mask, flagByte (r.1.modes.get q).attendant])
    else refuse s .badArgument

/-- SET_LANE_ENABLES taken. -/
def execSetLaneEnables (tag : Byte) (body : List Byte) (s : State) : Host.Outcome State Fault Refusal :=
  .next (s.takeWith 0x05 tag body setLaneEnablesRule)

/-! ## READ_LANE_STATUS (R180) -/

/-- The lane status record (R206). -/
def State.laneStatus (s : State) (q : LaneId) : List Byte :=
  let m := s.modes.get q
  let k := s.keyboards.get q
  let d := s.drawers.get q
  let c := s.interlocks.conditions.get q
  let u := s.outputs.get q
  let x := s.store.queues.get q
  [laneByte q, m.current.mask, m.saved.mask, m.attendantSet.mask, flagByte m.attendant, flagByte (s.elevated q)] ++
    num1 k.keylock.position.index ++ num1 k.reported.length ++
    [flagByte c.muted, (s.port q .a).alignment.code, (s.port q .b).alignment.code, (s.meter q .a).pacing.code,
      (s.meter q .b).pacing.code, d.state.code, flagByte d.fault, flagByte (d.cooling s.time), flagByte c.lockedOut,
      flagByte c.inhibitA, flagByte c.inhibitB, u.lamp.level.code, u.tone.level.code,
      (u.inhibits.get .a).level.code, (u.inhibits.get .b).level.code] ++
    num2 (s.store.occ q) ++ num2 x.lost ++ halfBytes x.nextSequence ++
    [flagByte x.wait.isSome, flagByte (s.link.readyPending.getLsbD q.val)]

/-- READ_LANE_STATUS (R180). -/
def readLaneStatusRule : Byte → List Byte → State → State × Answer :=
  laneRule 1 fun q _ s => (s, .reply .ok (s.laneStatus q))

/-- READ_LANE_STATUS taken. -/
def execReadLaneStatus (tag : Byte) (body : List Byte) (s : State) : Host.Outcome State Fault Refusal :=
  .next (s.takeWith 0x06 tag body readLaneStatusRule)

/-! ## Attendant mode (R176, R177) -/

/-- Entry to attendant mode (R176 steps 1 to 4). -/
def State.enterAttendant (s : State) (q : LaneId) : State :=
  let m := s.modes.get q
  let s1 := { s with modes := s.modes.set q { m with saved := m.current, attendant := true } }
  let s2 := (s1.produce q s.time .attendantOn).settle
  s2.setCurrent q m.attendantSet

/-- ENTER_ATTENDANT (R176). -/
def enterAttendantRule : Byte → List Byte → State → State × Answer :=
  laneRule 1 fun q _ s =>
    if (s.modes.get q).attendant then refuse s .busy
    else
      let s1 := s.enterAttendant q
      (s1, .reply .ok [laneByte q, (s1.modes.get q).current.mask, (s1.modes.get q).saved.mask])

/-- ENTER_ATTENDANT taken. -/
def execEnterAttendant (tag : Byte) (body : List Byte) (s : State) : Host.Outcome State Fault Refusal :=
  .next (s.takeWith 0x1F tag body enterAttendantRule)

/-- LEAVE_ATTENDANT (R177). -/
def leaveAttendantRule : Byte → List Byte → State → State × Answer :=
  laneRule 1 fun q _ s =>
    if (s.modes.get q).attendant then
      let s1 := s.leaveAttendant q .leaveRequest
      (s1, .reply .ok [laneByte q, 0, (s1.modes.get q).current.mask])
    else (s, .reply .ok [laneByte q, 1, (s.modes.get q).current.mask])

/-- LEAVE_ATTENDANT taken. -/
def execLeaveAttendant (tag : Byte) (body : List Byte) (s : State) : Host.Outcome State Fault Refusal :=
  .next (s.takeWith 0x20 tag body leaveAttendantRule)

end Sys2Proof.Machine
end

