-- ==== Sys2Proof/Machine/LinkRequests.lean ====
section
/-!
DEFINITION. The requests the Link Controller and the Timebase own (chapter 10): IDENTIFY, READ_TIME, RESET_PART,
READ_COUNTERS, CLEAR_COUNTERS.
-/

namespace Sys2Proof.Machine

/-- IDENTIFY (R194). -/
def identifyRule (_tag : Byte) (b : List Byte) (s : State) : State × Answer :=
  if b.length ≠ 0 then refuse s .badArgument
  else
    (s,
      .reply .ok
        (num2 Config.identityCode ++ num1 Config.revision ++ num1 4 ++ num1 8 ++ num2 Config.slots ++
          num1 Config.ruleCount ++ [s.link.rateCode.setWidth 8, s.link.cause.code] ++ wordBytes s.time))

/-- IDENTIFY taken. -/
def execIdentify (tag : Byte) (body : List Byte) (s : State) : Host.Outcome State Fault Refusal :=
  .next (s.takeWith 0x01 tag body identifyRule)

/-- READ_TIME (R193). -/
def readTimeRule (_tag : Byte) (b : List Byte) (s : State) : State × Answer :=
  if b.length ≠ 0 then refuse s .badArgument else (s, .reply .ok (wordBytes s.time))

/-- READ_TIME taken. -/
def execReadTime (tag : Byte) (body : List Byte) (s : State) : Host.Outcome State Fault Refusal :=
  .next (s.takeWith 0x02 tag body readTimeRule)

/-- The reply CANCELLED for a frame left in the receive buffer (R198 step 3). -/
def State.cancelledReply (s : State) (f : RequestFrame) : Message :=
  replyMessage f.tag f.kind .cancelled (s.refusalFields f.kind f.body) .cancelled

/-- RESET_PART (R198 steps 1 to 3): the receiver is turned off, the reply is made, and then a CANCELLED reply for each
frame of the receive buffer, oldest first. The reset itself is RESET_PART_DRAINED. -/
def resetPartRule (tag : Byte) (b : List Byte) (s : State) : State × Answer :=
  if b.length ≠ 0 then refuse s .badArgument
  else
    ({ s with
        link :=
          { s.link with
            receiver := .off
            buffer := []
            transmit :=
              s.link.transmit ++ replyMessage tag 0x03 .ok [] .taken :: s.link.buffer.map s.cancelledReply
            resetting := true } }, .noReply)

/-- RESET_PART taken. -/
def execResetPart (tag : Byte) (body : List Byte) (s : State) : Host.Outcome State Fault Refusal :=
  .next (s.takeWith 0x03 tag body resetPartRule)

/-! ## Counters (R195, R196) -/

/-- A counter group with its scope. -/
inductive CounterScope where
  | link
  | queue (q : LaneId)
  | keyboard (q : LaneId)
  | port (q : LaneId) (p : PortId)
  | drawer (q : LaneId)
  | flow
  deriving DecidableEq, Repr

/-- The scope a group of one lane has; BAD_LANE above 3. -/
def laneScope (b : Byte) (f : LaneId → CounterScope) : Status ⊕ CounterScope :=
  match laneOf b with
  | some q => .inr (f q)
  | none => .inl .badLane

/-- The scope a body of 3 bytes names, or the refusal (R195 tests 2 to 4). -/
def counterScopeAt (b : List Byte) : Status ⊕ CounterScope :=
  if byteAt b 0 = 0 then .inr .link
  else if byteAt b 0 = 1 then laneScope (byteAt b 1) .queue
  else if byteAt b 0 = 2 then laneScope (byteAt b 1) .keyboard
  else if byteAt b 0 = 3 then
    match laneOf (byteAt b 1), portOf (byteAt b 2) with
    | none, _ => .inl .badLane
    | some _, none => .inl .badArgument
    | some q, some p => .inr (.port q p)
  else if byteAt b 0 = 4 then laneScope (byteAt b 1) .drawer
  else if byteAt b 0 = 5 then .inr .flow
  else .inl .badIndex

/-- The counters of a scope, in the order of R195. -/
def State.counters (s : State) : CounterScope → List Count
  | .link => s.link.counters.list
  | .queue q => (s.store.queues.get q).counters.list
  | .keyboard q => (s.keyboards.get q).counters.list
  | .port q p => (s.port q p).counters.list
  | .drawer q => (s.drawers.get q).counters.list
  | .flow => s.table.flow.toList

/-- The counters of a scope set to 0. -/
def State.clearCounters (s : State) : CounterScope → State
  | .link => { s with link := { s.link with counters := LinkCounters.zero } }
  | .queue q => s.withQueue q { s.store.queues.get q with counters := QueueCounters.zero }
  | .keyboard q => s.withKeyboard q { s.keyboards.get q with counters := KeyboardCounters.zero }
  | .port q p => s.withPort q p { s.port q p with counters := PortCounters.zero }
  | .drawer q => s.withDrawer q { s.drawers.get q with counters := DrawerCounters.zero }
  | .flow => { s with table := { s.table with flow := Vector.replicate 32 0 } }

/-- Every scope of the part. -/
def allScopes : List CounterScope :=
  .link :: .flow ::
    allLanes.flatMap fun q => [.queue q, .keyboard q, .port q .a, .port q .b, .drawer q]

/-- The fields of a counters reply (R207). -/
def counterFields (b : List Byte) (values : List Count) : List Byte :=
  [byteAt b 0, byteAt b 1, byteAt b 2] ++ num1 values.length ++ values.flatMap wordBytes

/-- READ_COUNTERS (R195). -/
def readCountersRule (_tag : Byte) (b : List Byte) (s : State) : State × Answer :=
  if b.length ≠ 3 then refuse s .badArgument
  else
    match counterScopeAt b with
    | .inl st => refuse s st
    | .inr x => (s, .reply .ok (counterFields b (s.counters x)))

/-- READ_COUNTERS taken. -/
def execReadCounters (tag : Byte) (body : List Byte) (s : State) : Host.Outcome State Fault Refusal :=
  .next (s.takeWith 0x21 tag body readCountersRule)

/-- CLEAR_COUNTERS (R196); group 6 is ALL. -/
def clearCountersRule (_tag : Byte) (b : List Byte) (s : State) : State × Answer :=
  if b.length ≠ 3 then refuse s .badArgument
  else if byteAt b 0 = 6 then (allScopes.foldl State.clearCounters s, .reply .ok (counterFields b []))
  else
    match counterScopeAt b with
    | .inl st => refuse s st
    | .inr x => (s.clearCounters x, .reply .ok (counterFields b (s.counters x)))

/-- CLEAR_COUNTERS taken. -/
def execClearCounters (tag : Byte) (body : List Byte) (s : State) : Host.Outcome State Fault Refusal :=
  .next (s.takeWith 0x22 tag body clearCountersRule)

end Sys2Proof.Machine
end

