-- ==== Sys2Proof/Machine/TableRequests.lean ====
section
/-!
DEFINITION. The requests of the Classification Table (chapter 2): WRITE_RULE, READ_RULE, CLEAR_RULE, SET_PROFILE.
-/

namespace Sys2Proof.Machine

/-- The index a byte names among n; none where it is out of range. -/
def indexOf (n : Nat) (b : Byte) : Option (Fin n) := if h : b.toNat < n then some ⟨b.toNat, h⟩ else none

/-- The state of a rule (R202). -/
def ruleState (r : Option RuleRecord) : Byte := flagByte r.isSome

/-- WRITE_RULE (R45, R46). -/
def writeRuleRule (_tag : Byte) (b : List Byte) (s : State) : State × Answer :=
  if b.length ≠ 47 then refuse s .badArgument
  else
    match indexOf 64 (byteAt b 0) with
    | none => refuse s .badIndex
    | some n =>
      match ruleRecordAt b 1 with
      | none => refuse s .badArgument
      | some given =>
        match given.refusal with
        | some st => refuse s st
        | none =>
          let r := given.clamped.stored
          ({ s with table := s.table.withRule n (some r) },
            .reply (carriedOut (given.clamped == given)) (byteAt b 0 :: r.bytes))

/-- WRITE_RULE taken. -/
def execWriteRule (tag : Byte) (body : List Byte) (s : State) : Host.Outcome State Fault Refusal :=
  .next (s.takeWith 0x0F tag body writeRuleRule)

/-- READ_RULE (R47). -/
def readRuleRule (_tag : Byte) (b : List Byte) (s : State) : State × Answer :=
  if b.length ≠ 1 then refuse s .badArgument
  else
    match indexOf 64 (byteAt b 0) with
    | none => refuse s .badIndex
    | some n => (s, .reply .ok ([byteAt b 0, ruleState (s.table.rule n)] ++ ruleBytes (s.table.rule n)))

/-- READ_RULE taken. -/
def execReadRule (tag : Byte) (body : List Byte) (s : State) : Host.Outcome State Fault Refusal :=
  .next (s.takeWith 0x10 tag body readRuleRule)

/-- CLEAR_RULE (R48). -/
def clearRuleRule (_tag : Byte) (b : List Byte) (s : State) : State × Answer :=
  if b.length ≠ 1 then refuse s .badArgument
  else
    match indexOf 64 (byteAt b 0) with
    | none => refuse s .badIndex
    | some n =>
      ({ s with table := s.table.withRule n none }, .reply .ok [byteAt b 0, ruleState (s.table.rule n)])

/-- CLEAR_RULE taken. -/
def execClearRule (tag : Byte) (body : List Byte) (s : State) : Host.Outcome State Fault Refusal :=
  .next (s.takeWith 0x11 tag body clearRuleRule)

/-- The settings of a SET_PROFILE body are all in their ranges (R51). -/
def profileAsGiven (b : List Byte) (p : Profile) : Bool :=
  p.valueStart == natAt b 1 && p.valueLength == natAt b 2 && p.decimals == natAt b 4 &&
    p.checkPosition == natAt b 5 && p.itemStart == natAt b 6 && p.itemLength == natAt b 7

/-- SET_PROFILE (R51). -/
def setProfileRule (_tag : Byte) (b : List Byte) (s : State) : State × Answer :=
  if b.length ≠ 8 then refuse s .badArgument
  else
    match indexOf 8 (byteAt b 0) with
    | none => refuse s .badIndex
    | some n =>
      match valueKindOf (byteAt b 3) with
      | none => refuse s .badArgument
      | some k =>
        let p := profileTaken b k
        ({ s with table := s.table.withProfile n p },
          .reply (carriedOut (profileAsGiven b p)) (byteAt b 0 :: p.bytes))

/-- SET_PROFILE taken. -/
def execSetProfile (tag : Byte) (body : List Byte) (s : State) : Host.Outcome State Fault Refusal :=
  .next (s.takeWith 0x12 tag body setProfileRule)

end Sys2Proof.Machine
end

