-- ==== Sys2Proof/Machine/MonitorRequests.lean ====
section
/-!
DEFINITION. The requests of the Interlock Monitors and the Lane Output Units (chapter 8): SET_INTERLOCK,
RELEASE_INTERLOCK, READ_INTERLOCKS, SET_OUTPUT, SET_PATTERN.
-/

namespace Sys2Proof.Machine

/-! ## SET_INTERLOCK (R163, R164) -/

/-- Step 1 of R164: an ACTIVE monitor leaves ACTIVE with INTERLOCK_OFF. -/
def State.endMonitor (s : State) (i : MonitorId) (newEnabled : Bool) : State :=
  if (s.monitor i).state = .active then
    (s.withMonitor i { s.monitor i with state := .inactive }).monitorEvent i s.time
      (.interlockOff i (if newEnabled then .rewritten else .disabled))
  else s

/-- Steps 2 and 3 of R164: the settings are replaced, and an enabled monitor whose condition matches begins. -/
def State.beginMonitor (s : State) (i : MonitorId) (g : MonitorSettings) : State :=
  let s1 := s.withMonitor i (Monitor.rewritten g)
  if s1.matchOf g then
    let r := (Monitor.rewritten g).matchBegins s.time
    let s2 := s1.withMonitor i r.1
    if r.2 = .entered then s2.monitorEvent i s.time (.interlockOn i) else s2
  else s1

/-- The four steps of R164. -/
def State.rewriteMonitor (s : State) (i : MonitorId) (g : MonitorSettings) : State :=
  ((s.endMonitor i g.enabled).beginMonitor i g).refreshEffects

/-- SET_INTERLOCK (R163, R164). The reply reads the state after the request when the four steps of R164 are done, before
the monitors take what its own events bring about: DESIGN CHOICE, unsafe (log 29). -/
def setInterlockRule (_tag : Byte) (b : List Byte) (s : State) : State × Answer :=
  if b.length ≠ 16 then refuse s .badArgument
  else
    match indexOf 8 (byteAt b 0) with
    | none => refuse s .badIndex
    | some i =>
      match laneOf (byteAt b 2) with
      | none => refuse s .badLane
      | some source =>
        match monitorSettingsAt b source with
        | none => refuse s .badArgument
        | some given =>
          let g := given.clamped
          let s1 := s.rewriteMonitor i g
          (s1.settle,
            .reply (carriedOut (g == given))
              (byteAt b 0 :: g.bytes ++ [(s.monitor i).state.code, (s1.monitor i).state.code]))

/-- SET_INTERLOCK taken. -/
def execSetInterlock (tag : Byte) (body : List Byte) (s : State) : Host.Outcome State Fault Refusal :=
  .next (s.takeWith 0x1A tag body setInterlockRule)

/-! ## RELEASE_INTERLOCK (R162) -/

/-- The release needs a privilege the source lane does not have (R162 test 5). -/
def State.releaseRefused (s : State) (m : Monitor) : Bool :=
  m.settings.effects.getLsbD Effect.lockout.bit && !s.elevated m.settings.sourceLane

/-- RELEASE_INTERLOCK (R162). The reply to a release gives INACTIVE and match false, read when step 6 is done, also where
the INTERLOCK_OFF it admits makes the monitor match again: DESIGN CHOICE, unsafe (log 29). -/
def releaseInterlockRule (_tag : Byte) (b : List Byte) (s : State) : State × Answer :=
  if b.length ≠ 1 then refuse s .badArgument
  else
    match indexOf 8 (byteAt b 0) with
    | none => refuse s .badIndex
    | some i =>
      let m := s.monitor i
      if m.state ≠ .active then (s, .reply .ok [byteAt b 0, m.state.code, flagByte m.isMatch, 1])
      else if m.isMatch then (s, .reply .stillMatching [byteAt b 0, m.state.code, 1, 0])
      else if s.releaseRefused m then (s, .reply .privilege [byteAt b 0, m.state.code, 0, 0])
      else
        ((s.turnMonitor i s.time ({ m with state := .inactive }, .left .released)).settle,
          .reply .ok [byteAt b 0, MonitorState.inactive.code, 0, 0])

/-- RELEASE_INTERLOCK taken. -/
def execReleaseInterlock (tag : Byte) (body : List Byte) (s : State) : Host.Outcome State Fault Refusal :=
  .next (s.takeWith 0x1B tag body releaseInterlockRule)

/-! ## READ_INTERLOCKS (R165) -/

/-- What the reply carries for one monitor. -/
def Monitor.report (now : Time) (m : Monitor) : List Byte :=
  [flagByte m.settings.enabled, m.state.code, flagByte m.isMatch] ++ num2 (m.timeLeft now)

/-- The index of the monitor whose force applies, or 8 for none (R202). -/
def forcingCode (ms : Vector Monitor 8) (q : LaneId) (o : SignalOut) : List Byte :=
  match forcingMonitor ms q o with
  | some i => num1 i.val
  | none => num1 8

/-- What the reply carries for one lane. -/
def State.laneForces (s : State) (q : LaneId) : List Byte :=
  let c := s.interlocks.conditions.get q
  [flagByte c.muted, flagByte c.lockedOut, flagByte c.inhibitA, flagByte c.inhibitB] ++
    forcingCode s.interlocks.monitors q .lamp ++ forcingCode s.interlocks.monitors q .tone

/-- READ_INTERLOCKS (R165). -/
def readInterlocksRule (_tag : Byte) (b : List Byte) (s : State) : State × Answer :=
  if b.length ≠ 0 then refuse s .badArgument
  else
    (s,
      .reply .ok
        ((allMonitors.flatMap fun i => (s.monitor i).report s.time) ++ allLanes.flatMap s.laneForces))

/-- READ_INTERLOCKS taken. -/
def execReadInterlocks (tag : Byte) (body : List Byte) (s : State) : Host.Outcome State Fault Refusal :=
  .next (s.takeWith 0x1C tag body readInterlocksRule)

/-! ## SET_OUTPUT (R170) -/

/-- The output a SET_OUTPUT names: LAMP, TONE, or a port's inhibit (R202). -/
def outputOf (b : Byte) : Option (SignalOut ⊕ PortId) :=
  if b = 0 then some (.inl .lamp)
  else if b = 1 then some (.inl .tone)
  else if b = 2 then some (.inr .a)
  else if b = 3 then some (.inr .b)
  else none

/-- The host value a byte names; a BLINK starts at the moment given (R170). -/
def hostValueOf (b : Byte) (now : Time) : Option HostValue :=
  if b = 0 then some .off else if b = 1 then some .on else if b = 2 then some (.blink now) else none

/-- LAMP or TONE takes a host value, and a running pattern ends. -/
def State.setSignal (s : State) (q : LaneId) (o : SignalOut) (v : HostValue) : State :=
  s.updateSignal q o fun x => { x.stop with host := v }

/-- An inhibit takes a host value. -/
def State.setInhibit (s : State) (q : LaneId) (p : PortId) (l : Level) : State :=
  let u := s.outputs.get q
  (s.withOutputs q { u with inhibits := u.inhibits.set p { u.inhibits.get p with host := l } }).resolveInhibit q p

/-- SET_OUTPUT (R170). -/
def setOutputRule : Byte → List Byte → State → State × Answer :=
  laneRule 3 fun q b s =>
    match outputOf (byteAt b 1) with
    | none => refuse s .badArgument
    | some (.inl o) =>
      match hostValueOf (byteAt b 2) s.time with
      | none => refuse s .badArgument
      | some v =>
        let s1 := s.setSignal q o v
        (s1,
          .reply .ok
            [laneByte q, byteAt b 1, byteAt b 2, flagByte ((s.outputs.get q).signal o).playing.isSome,
              ((s1.outputs.get q).signal o).level.code])
    | some (.inr p) =>
      match levelOf (byteAt b 2) with
      | none => refuse s .badArgument
      | some l =>
        let s1 := s.setInhibit q p l
        (s1,
          .reply .ok
            [laneByte q, byteAt b 1, byteAt b 2, 0, ((s1.outputs.get q).inhibits.get p).level.code])

/-- SET_OUTPUT taken. -/
def execSetOutput (tag : Byte) (body : List Byte) (s : State) : Host.Outcome State Fault Refusal :=
  .next (s.takeWith 0x1D tag body setOutputRule)

/-! ## SET_PATTERN (R169) -/

/-- SET_PATTERN (R169). -/
def setPatternRule (_tag : Byte) (b : List Byte) (s : State) : State × Answer :=
  if b.length ≠ 10 then refuse s .badArgument
  else
    match indexOf 8 (byteAt b 0) with
    | none => refuse s .badIndex
    | some n =>
      match patternAt b with
      | none => refuse s .badArgument
      | some given =>
        let p := given.clamped
        ({ s with patterns := s.patterns.set n.val p n.isLt },
          .reply (carriedOut (p == given)) (byteAt b 0 :: p.bytes))

/-- SET_PATTERN taken. -/
def execSetPattern (tag : Byte) (body : List Byte) (s : State) : Host.Outcome State Fault Refusal :=
  .next (s.takeWith 0x1E tag body setPatternRule)

end Sys2Proof.Machine
end

