-- ==== Sys2Proof/Machine/ScannerRequests.lean ====
section
/-!
DEFINITION. The requests of the scan path (chapters 4 to 6): SET_SCANNER_LINE, SET_SCANNER_IDS, SET_SCANNER_CHECKS,
SET_REPEAT, SET_METER, RESYNC_SCANNER.
-/

namespace Sys2Proof.Machine

/-- SET_SCANNER_LINE (R99, R100). -/
def setScannerLineRule : Byte → List Byte → State → State × Answer :=
  portRule 20 fun q p b s =>
    match lineSettingsAt b with
    | none => refuse s .badArgument
    | some given =>
      let l := given.clamped
      if l.maxData < l.minData then refuse s .badArgument
      else
        ((s.portDoes q p (ScannerPort.configure s.time p l)).settle,
          .reply (carriedOut (l == given)) ([laneByte q, portByte p] ++ l.bytes))

/-- SET_SCANNER_LINE taken. -/
def execSetScannerLine (tag : Byte) (body : List Byte) (s : State) : Host.Outcome State Fault Refusal :=
  .next (s.takeWith 0x09 tag body setScannerLineRule)

/-- SET_SCANNER_IDS (R102). -/
def setScannerIdsRule : Byte → List Byte → State → State × Answer :=
  portRule 50 fun q p b s =>
    if badIdMap b then refuse s .badArgument
    else
      (s.withPort q p { s.port q p with idMap := idMapAt b },
        .reply .ok ([laneByte q, portByte p] ++ num1 (usedEntries (idMapAt b)).length))

/-- SET_SCANNER_IDS taken. -/
def execSetScannerIds (tag : Byte) (body : List Byte) (s : State) : Host.Outcome State Fault Refusal :=
  .next (s.takeWith 0x0A tag body setScannerIdsRule)

/-- SET_SCANNER_CHECKS (R122). -/
def setScannerChecksRule : Byte → List Byte → State → State × Answer :=
  portRule 4 fun q p b s =>
    if halfAt b 2 &&& ~~~fullCheckSet ≠ 0 then refuse s .badArgument
    else
      let c := s.checkers.get q
      (s.withChecker q { c with checks := c.checks.set p (halfAt b 2) },
        .reply .ok ([laneByte q, portByte p] ++ halfBytes (halfAt b 2)))

/-- SET_SCANNER_CHECKS taken. -/
def execSetScannerChecks (tag : Byte) (body : List Byte) (s : State) : Host.Outcome State Fault Refusal :=
  .next (s.takeWith 0x0B tag body setScannerChecksRule)

/-- SET_REPEAT (R123). -/
def setRepeatRule : Byte → List Byte → State → State × Answer :=
  laneRule 3 fun q b s =>
    let given := nat2At b 1
    let hold := clamp 0 5000 given
    let c := s.checkers.get q
    (s.withChecker q { c with holdTime := hold, recent := [] },
      .reply (carriedOut (hold == given)) (laneByte q :: num2 hold ++ num1 c.recent.length))

/-- SET_REPEAT taken. -/
def execSetRepeat (tag : Byte) (body : List Byte) (s : State) : Host.Outcome State Fault Refusal :=
  .next (s.takeWith 0x0C tag body setRepeatRule)

/-- The meter of a port is rewritten: a running hold ends with PACING_OFF (R133). -/
def State.rewriteMeter (s : State) (q : LaneId) (p : PortId) (m : Meter) : State :=
  let s1 := (s.withMeter q p m).resolveInhibit q p
  (if (s.meter q p).holds then s1.produce q s.time (.pacingOff p) else s1).settle

/-- SET_METER (R132, R133). -/
def setMeterRule : Byte → List Byte → State → State × Answer :=
  portRule 7 fun q p b s =>
    if isFlag (byteAt b 5) then
      let m :=
        (s.meter q p).configured s.time (natAt b 2) (natAt b 3) (natAt b 4) (natAt b 6) (flagOf (byteAt b 5))
      let asGiven :=
        m.rate == natAt b 2 && m.steadyCapacity == natAt b 3 && m.burstCapacity == natAt b 4 &&
          m.releaseLevel == natAt b 6
      (s.rewriteMeter q p m,
        .reply (carriedOut asGiven)
          ([laneByte q, portByte p] ++ num1 m.rate ++ num1 m.steadyCapacity ++ num1 m.burstCapacity ++
            [flagByte m.pacingOn] ++ num1 m.releaseLevel ++ wordBytes s.time))
    else refuse s .badArgument

/-- SET_METER taken. -/
def execSetMeter (tag : Byte) (body : List Byte) (s : State) : Host.Outcome State Fault Refusal :=
  .next (s.takeWith 0x0D tag body setMeterRule)

/-- RESYNC_SCANNER (R97). -/
def resyncScannerRule : Byte → List Byte → State → State × Answer :=
  portRule 2 fun q p _ s =>
    if (s.modes.get q).current.port p then
      ((s.portDoes q p (ScannerPort.resync s.time p)).settle,
        .reply .ok [laneByte q, portByte p, (s.port q p).alignment.code])
    else refuse s .disabled

/-- RESYNC_SCANNER taken. -/
def execResyncScanner (tag : Byte) (body : List Byte) (s : State) : Host.Outcome State Fault Refusal :=
  .next (s.takeWith 0x0E tag body resyncScannerRule)

end Sys2Proof.Machine
end

