-- ==== Sys2Proof/Machine/StoreRequests.lean ====
section
/-!
DEFINITION. The requests of the Event Store (chapter 1): SET_ADMISSION, FETCH, FLUSH, AWAIT, CANCEL_AWAIT.
-/

namespace Sys2Proof.Machine

/-- SET_ADMISSION (R24, R25). -/
def setAdmissionRule (_tag : Byte) (b : List Byte) (s : State) : State × Answer :=
  if b.length ≠ 24 then refuse s .badArgument
  else
    let given := admissionAt b
    let a := given.clamped
    if s.store.fits a.reserves then
      ({ s with store := s.store.withSettings a }, .reply (carriedOut (a == given)) a.bytes)
    else (s, .reply .noResource s.store.occBytes)

/-- SET_ADMISSION taken. -/
def execSetAdmission (tag : Byte) (body : List Byte) (s : State) : Host.Outcome State Fault Refusal :=
  .next (s.takeWith 0x13 tag body setAdmissionRule)

/-- FETCH (R14, R15). An empty queue asked with a maximum out of range answers ADJUSTED: DEDUCED, unsafe (log 25). -/
def fetchRule : Byte → List Byte → State → State × Answer :=
  laneRule 2 fun q b s =>
    let n := clamp 1 8 (natAt b 1)
    let x := s.store.queues.get q
    let records := x.fetchable n
    ((s.withQueue q (x.fetched n)).settle,
      .reply (carriedOut (n == natAt b 1))
        ([laneByte q] ++ num1 n ++ num1 records.length ++ num2 (x.fetched n).events.length ++
          records.flatMap EventRecord.bytes))

/-- FETCH taken. -/
def execFetch (tag : Byte) (body : List Byte) (s : State) : Host.Outcome State Fault Refusal :=
  .next (s.takeWith 0x14 tag body fetchRule)

/-- FLUSH (R16). An empty queue replies with both numbers 0, also where its L_q is not 0 and is set to 0: DEDUCED, safe
(log 24). -/
def flushRule : Byte → List Byte → State → State × Answer :=
  laneRule 1 fun q _ s =>
    let x := s.store.queues.get q
    ((s.withQueue q x.flush).settle,
      .reply .ok ([laneByte q] ++ num2 x.events.length ++ num2 (if x.events = [] then 0 else x.lost)))

/-- FLUSH taken. -/
def execFlush (tag : Byte) (body : List Byte) (s : State) : Host.Outcome State Fault Refusal :=
  .next (s.takeWith 0x15 tag body flushRule)

/-- The wait an accepted AWAIT sets up (R17, R18). -/
def waitFor (tag : Byte) (b : List Byte) (now : Time) : Wait :=
  { tag := tag
    sources := (byteAt b 1).setWidth 6
    timeout := timeoutHeld b
    clamped := decide (600000 < (wordAt b 2).toNat)
    expiry := if timeoutHeld b = 0 then none else some (after now (timeoutHeld b)) }

/-- AWAIT (R17 to R19). -/
def awaitRule (tag : Byte) (b : List Byte) (s : State) : State × Answer :=
  if b.length ≠ 6 then (s, .reply .badArgument (s.awaitRefusal b))
  else
    match laneOf (byteAt b 0) with
    | none => (s, .reply .badLane (s.awaitRefusal b))
    | some q =>
      let x := s.store.queues.get q
      if byteAt b 1 = 0 ∨ !maskHas 6 (byteAt b 1) then (s, .reply .badArgument (s.awaitRefusal b))
      else if x.wait.isSome then (s, .reply .busy (s.awaitRefusal b))
      else
        let w := waitFor tag b s.time
        match x.oldestFrom w.sources with
        | some r =>
          (s, .reply (carriedOut (!w.clamped)) (awaitFields (laneByte q) w.timeout (s.store.occ q) r.sequence 0))
        | none => ({ s with store := s.store.setWait q (some w) }, .noReply)

/-- AWAIT taken. -/
def execAwait (tag : Byte) (body : List Byte) (s : State) : Host.Outcome State Fault Refusal :=
  .next (s.takeWith 0x16 tag body awaitRule)

/-- CANCEL_AWAIT (R22). -/
def cancelAwaitRule : Byte → List Byte → State → State × Answer :=
  laneRule 1 fun q _ s =>
    (s.cancelWait q causeCancelRequest,
      .reply .ok [laneByte q, flagByte (s.store.queues.get q).wait.isNone])

/-- CANCEL_AWAIT taken. -/
def execCancelAwait (tag : Byte) (body : List Byte) (s : State) : Host.Outcome State Fault Refusal :=
  .next (s.takeWith 0x17 tag body cancelAwaitRule)

end Sys2Proof.Machine
end

