-- ==== Sys2Proof/Machine/Link.lean ====
section
/-!
DEFINITION. The Link Controller (chapter 10): reception of frames, the taking of requests, sending, notices and part
resets.
-/

namespace Sys2Proof.Machine

/-! ## Frames (R185, R201) -/

/-- The bytes a frame's check covers: length, tag, kind, body (R186). -/
def frameCore (tag kind : Byte) (body : List Byte) : List Byte :=
  BitVec.ofNat 8 (body.length + 2) :: tag :: kind :: body

/-- The bytes of a frame on the line (R185). -/
def frameBytes (tag kind : Byte) (body : List Byte) : List Byte :=
  0xC3 :: (frameCore tag kind body ++ halfBytes (crc16 (frameCore tag kind body)))

/-- The bytes of a message on the line. -/
def Message.bytes (m : Message) : List Byte := frameBytes m.tag m.kind m.body

/-! ## Reception (R187, R188) -/

/-- The link with a change of its counters. -/
def Link.count (l : Link) (f : LinkCounters → LinkCounters) : Link := { l with counters := f l.counters }

/-- The OVERRUN replies of the transmit path not yet sent. -/
def Link.overruns (l : Link) : Nat := (l.transmit.filter fun m => m.origin == .overrun).length

/-- A checked frame is offered to the receive buffer (R188). -/
def State.offerFrame (s : State) (f : RequestFrame) : State :=
  if s.link.buffer.length < Config.rxCapacity then { s with link := { s.link with buffer := s.link.buffer ++ [f] } }
  else
    let s1 := { s with link := s.link.count fun c => { c with overrun := c.overrun + 1 } }
    if s.link.overruns < Config.overrunCapacity then
      s1.push (replyMessage f.tag f.kind .overrun (s.refusalFields f.kind f.body) .overrun)
    else s1

/-- The length byte of a frame's bytes after its start byte. -/
def frameLength (bytes : List Byte) : Nat := natAt bytes 0

/-- The check of a complete frame holds (R186). -/
def frameChecks (bytes : List Byte) : Bool :=
  crc16 (bytes.take (frameLength bytes + 1)) == halfAt bytes (frameLength bytes + 1)

/-- The request of a complete frame. -/
def frameRequest (bytes : List Byte) : RequestFrame :=
  { tag := byteAt bytes 1, kind := byteAt bytes 2, body := (bytes.drop 3).take (frameLength bytes - 2) }

/-- A byte examined while HUNTING. -/
def State.huntByte (s : State) (v : Byte) : State :=
  if v = 0xC3 then { s with link := { s.link with receiver := .inFrame [] s.time } } else s

/-- The receiver goes HUNTING with a change of the link counters. -/
def State.toHunting (s : State) (f : LinkCounters → LinkCounters) : State :=
  { s with link := { s.link.count f with receiver := .hunting } }

/-- A byte in IN_FRAME, after the bytes the frame already has (R187). -/
def State.frameByte (s : State) (bytes : List Byte) (v : Byte) : State :=
  let b := bytes ++ [v]
  if frameLength b < 2 then s.toHunting fun c => { c with badCrc := c.badCrc + 1 }
  else if b.length < frameLength b + 3 then { s with link := { s.link with receiver := .inFrame b s.time } }
  else if frameChecks b then
    (s.toHunting fun c => { c with goodFrames := c.goodFrames + 1 }).offerFrame (frameRequest b)
  else s.toHunting fun c => { c with badCrc := c.badCrc + 1 }

/-- The gap limit of the host line, in ms (R187). -/
def linkGap : Nat := 10

/-- A frame is discarded for its gap (R187). -/
def State.dropGap (s : State) : State := s.toHunting fun c => { c with gap := c.gap + 1 }

/-- A byte arrives on the host line (R187). A gap that ran out before this moment discards the frame first, and the byte
is examined while HUNTING (log 2). -/
def execHostByteReceived (value : Byte) (s : State) : Host.Outcome State Fault Refusal :=
  .next
    (match s.link.receiver with
     | .off => s
     | .hunting => s.huntByte value
     | .inFrame bytes last =>
       if linkGap + 1 < elapsed s.time last then s.dropGap.huntByte value else s.frameByte bytes value)

/-- More than 10 ms have passed inside a frame (R187). -/
def execLinkGapExpiry (s : State) : Host.Outcome State Fault Refusal :=
  .next
    (match s.link.receiver with
     | .inFrame _ last => if linkGap < elapsed s.time last then s.dropGap else s
     | _ => s)

/-! ## Taking requests (R189) -/

/-- The reply to the request taken last, and the STARTED notice, have been sent whole (R189). -/
def Link.mayTake (l : Link) : Bool := l.transmit.all fun m => m.origin != .taken && m.origin != .started

/-- The rule of the request a kind names; none where it names none (R202). -/
def requestRule (kind : Byte) : Option (Byte → List Byte → State → State × Answer) :=
  match kind.toNat with
  | 0x01 => some identifyRule
  | 0x02 => some readTimeRule
  | 0x03 => some resetPartRule
  | 0x04 => some resetLaneRule
  | 0x05 => some setLaneEnablesRule
  | 0x06 => some readLaneStatusRule
  | 0x07 => some setKeyboardRule
  | 0x08 => some setKeysRule
  | 0x09 => some setScannerLineRule
  | 0x0A => some setScannerIdsRule
  | 0x0B => some setScannerChecksRule
  | 0x0C => some setRepeatRule
  | 0x0D => some setMeterRule
  | 0x0E => some resyncScannerRule
  | 0x0F => some writeRuleRule
  | 0x10 => some readRuleRule
  | 0x11 => some clearRuleRule
  | 0x12 => some setProfileRule
  | 0x13 => some setAdmissionRule
  | 0x14 => some fetchRule
  | 0x15 => some flushRule
  | 0x16 => some awaitRule
  | 0x17 => some cancelAwaitRule
  | 0x18 => some setDrawerRule
  | 0x19 => some openDrawerRule
  | 0x1A => some setInterlockRule
  | 0x1B => some releaseInterlockRule
  | 0x1C => some readInterlocksRule
  | 0x1D => some setOutputRule
  | 0x1E => some setPatternRule
  | 0x1F => some enterAttendantRule
  | 0x20 => some leaveAttendantRule
  | 0x21 => some readCountersRule
  | 0x22 => some clearCountersRule
  | _ => none

/-- The refusal of a kind that names no request (R189 test 2). -/
def unknownKindRule (_tag : Byte) (_b : List Byte) (s : State) : State × Answer :=
  refuse { s with link := s.link.count fun c => { c with unknownKind := c.unknownKind + 1 } } .unknownKind

/-- A frame is taken from the receive buffer (R189 tests 1 to 3). -/
def State.takeFrame (s : State) (f : RequestFrame) : State :=
  s.takeWith f.kind f.tag f.body ((requestRule f.kind).getD unknownKindRule)

/-- The Link Controller takes the oldest request of the receive buffer, once it may (R189). -/
def execTakeRequest (s : State) : Host.Outcome State Fault Refusal :=
  .next
    (match s.link.buffer with
     | [] => s
     | f :: rest =>
       if s.link.mayTake then { s with link := { s.link with buffer := rest } }.takeFrame f else s)

/-! ## Sending (R190, R191) -/

/-- The frame being sent has been sent whole (R190). The last message after RESET_PART is not sent by this command but
by RESET_PART_DRAINED (R198, log 15). -/
def execFrameSent (s : State) : Host.Outcome State Fault Refusal :=
  .next
    (match s.link.transmit with
     | [] => s
     | m :: rest =>
       if s.link.resetting ∧ rest = [] then s
       else { s with link := { s.link with transmit := rest, hostLine := m.bytes } })

/-- The READY notice for the lanes now pending (R191, R201). -/
def State.readyNotice (s : State) : Message :=
  { tag := 0, kind := kindReady, body := s.link.readyPending.setWidth 8 :: s.store.occBytes, origin := .ready }

/-- With the transmitter idle and lanes pending, a READY notice is made and the set is emptied (R190, R191); not
between RESET_PART and its reset (R198). -/
def execReadyNotice (s : State) : Host.Outcome State Fault Refusal :=
  .next
    (if s.link.transmit = [] ∧ s.link.readyPending ≠ 0 ∧ ¬s.link.resetting then
       { s with link := { s.link with transmit := [s.readyNotice], readyPending := 0 } }
     else s)

/-! ## Part resets (R197, R198) -/

/-- The cause a reset from outside is recorded with (R197). -/
def resetCauseOf : ResetPin → ResetCause
  | .power => .power
  | .pin => .pin

/-- The part reset, with the model's own queue and count of free orders kept (log 8). -/
def State.partReset (s : State) (cause : ResetCause) (straps : BitVec 2) : State :=
  { State.afterReset cause straps with freeIndex := s.freeIndex, pending := s.pending }

/-- A power-on or pin reset (R197). -/
def execPartReset (cause : ResetPin) (straps : BitVec 2) (s : State) : Host.Outcome State Fault Refusal :=
  .next (s.partReset (resetCauseOf cause) straps)

/-- After RESET_PART, the last message of the transmit path is sent and the part resets with cause REQUEST (R198). -/
def execResetPartDrained (straps : BitVec 2) (s : State) : Host.Outcome State Fault Refusal :=
  .next
    (match s.link.resetting, s.link.transmit with
     | true, [] => s.partReset .request straps
     | true, [m] =>
       let r := s.partReset .request straps
       { r with link := { r.link with hostLine := m.bytes } }
     | _, _ => s)

end Sys2Proof.Machine
end

