-- ==== Sys2Proof/Machine/MonitorEvents.lean ====
section
/-!
DEFINITION. The timers of the Interlock Monitors and the Lane Output Units (chapter 8), and the expiry of a wait
(chapter 1).
-/

namespace Sys2Proof.Machine

/-- A pending wait reaches its expiry (R21). -/
def execAwaitExpiry (lane : LaneId) (s : State) : Host.Outcome State Fault Refusal :=
  .next
    (match (s.store.queues.get lane).wait with
     | some w =>
       if w.expiry.any (reached s.time) then s.completeWait lane w .timeout 0 0 else s
     | none => s)

/-- The qualify expiry: the monitor becomes ACTIVE (R158). -/
def execInterlockQualifyExpiry (monitor : MonitorId) (s : State) : Host.Outcome State Fault Refusal :=
  .next
    (match (s.monitor monitor).qualifyExpiry with
     | some t =>
       if reached s.time t then
         (s.turnMonitor monitor t ({ s.monitor monitor with state := .active }, .entered)).settle
       else s
     | none => s)

/-- The end of the step being played (R168). -/
def execPatternStepEnd (lane : LaneId) (output : SignalOut) (s : State) : Host.Outcome State Fault Refusal :=
  .next (s.updateSignal lane output (SignalOutput.stepEnd s.time))

/-- A 500 ms boundary of a BLINK host value: the output is resolved again (R167). -/
def execBlinkBoundary (lane : LaneId) (output : SignalOut) (s : State) : Host.Outcome State Fault Refusal :=
  .next (s.updateSignal lane output id)

end Sys2Proof.Machine
end

