-- ==== Sys2Proof/Machine/ScannerEvents.lean ====
section
/-!
DEFINITION. The events of the scan path (chapters 4 to 6): characters, breaks, gap expiries and window boundaries of the
Scanner Ports, the Symbol Checker's taking of a symbol, and the release of a pacing hold.
-/

namespace Sys2Proof.Machine

/-- A character arrives at a port (R79, R82); a frame it completes is marked by the inhibit level that stands (R95). A
character under way when SET_SCANNER_LINE changes the parity (R100) is judged by the parity held now, when its stop bit
arrives: DESIGN CHOICE, unsafe (log 31). -/
def execScannerByte (lane : LaneId) (port : PortId) (value : Byte) (parityBit stopMark : Bool) (s : State) :
    Host.Outcome State Fault Refusal :=
  .next
    (s.portDoes lane port
        (ScannerPort.takeByte s.time port (s.inhibited lane port)
          { value := value
            error := byteInError (s.port lane port).line.format.parity value parityBit stopMark })).settle

/-- A break on the line of a port (R80). -/
def execScannerBreak (lane : LaneId) (port : PortId) (s : State) : Host.Outcome State Fault Refusal :=
  .next (s.portDoes lane port (ScannerPort.break s.time port)).settle

/-- The gap timer of a port expires (R83). -/
def execScannerGapExpiry (lane : LaneId) (port : PortId) (s : State) : Host.Outcome State Fault Refusal :=
  .next (s.portDoes lane port (ScannerPort.gapExpiry s.time port)).settle

/-- A boundary of a port's error windows (R92). -/
def execErrorWindowBoundary (lane : LaneId) (port : PortId) (s : State) : Host.Outcome State Fault Refusal :=
  .next (s.withPort lane port ((s.port lane port).windowBoundary s.time))

/-! ## SYMBOL_TAKE (R107) -/

/-- The grade counter advances (R127 step 5). -/
def PortCounters.addGrade (c : PortCounters) : Grade → PortCounters
  | .steady => { c with steady := c.steady + 1 }
  | .burst => { c with burst := c.burst + 1 }
  | .flood => { c with flood := c.flood + 1 }

/-- The Scan Meter takes a symbol (R125 to R129): it is graded and goes on to the Classification Table, and then a
FLOOD may start a pacing hold. -/
def State.meterSymbol (s : State) (q : LaneId) (x : Symbol) (code : Byte) : State :=
  let m := s.meter q x.port
  let g := m.gradeAt s.time
  let m1 := m.graded s.time
  let s1 := (s.countPort q x.port fun c => c.addGrade g).withMeter q x.port m1
  let s2 := s1.produce q x.frame.time (.symbol x.port code g x.frame.data none)
  let s3 := (s2.withMeter q x.port (m1.paced g)).resolveInhibit q x.port
  if m1.startsHold g then s3.produce q s.time (.pacingOn x.port) else s3

/-- The Symbol Checker of lane q takes a symbol: the stages of R107 in order. -/
def State.checkSymbol (s : State) (q : LaneId) (x : Symbol) : State :=
  let c := s.checkers.get q
  let code := symbologyOf (s.port q x.port).idMap x.frame.id
  if failsCheck (c.checks.get x.port) code x.frame.data then
    s.portDoes q x.port (ScannerPort.checkFailure s.time x.port)
  else if x.frame.inhibited then
    s.countPort q x.port fun n => { n with inhibited := n.inhibited + 1 }
  else if c.suppresses s.time code x.frame.data then
    (s.withChecker q (c.remember s.time code x.frame.data)).countPort q x.port fun n =>
      { n with repeatsSuppressed := n.repeatsSuppressed + 1 }
  else (s.withChecker q (c.remember s.time code x.frame.data)).meterSymbol q x code

/-- The Symbol Checker takes the oldest symbol handed on and not yet taken (R106, R107). -/
def execSymbolTake (lane : LaneId) (s : State) : Host.Outcome State Fault Refusal :=
  .next
    (match (s.checkers.get lane).inbox with
     | [] => s
     | x :: rest => ((s.withChecker lane { s.checkers.get lane with inbox := rest }).checkSymbol lane x).settle)

/-- The release time of a pacing hold is reached (R130). -/
def execPacingRelease (lane : LaneId) (port : PortId) (s : State) : Host.Outcome State Fault Refusal :=
  .next
    (match (s.meter lane port).releaseDue s.time with
     | some t =>
       (((s.withMeter lane port ((s.meter lane port).released t)).resolveInhibit lane port).produce lane t
          (.pacingOff port)).settle
     | none => s)

end Sys2Proof.Machine
end

