-- ==== Sys2Proof/Machine/Dispatch.lean ====
section
/-!
DEFINITION. The effect of each command on everything but the queue: one arm per constructor of Instr.
-/

namespace Sys2Proof.Machine

def exec (i : Instr) (s : State) : Host.Outcome State Fault Refusal :=
  match i with
  | .identify tag body => Sys2Proof.Machine.execIdentify tag body s
  | .readTime tag body => Sys2Proof.Machine.execReadTime tag body s
  | .resetPart tag body => Sys2Proof.Machine.execResetPart tag body s
  | .resetLane tag body => Sys2Proof.Machine.execResetLane tag body s
  | .setLaneEnables tag body => Sys2Proof.Machine.execSetLaneEnables tag body s
  | .readLaneStatus tag body => Sys2Proof.Machine.execReadLaneStatus tag body s
  | .setKeyboard tag body => Sys2Proof.Machine.execSetKeyboard tag body s
  | .setKeys tag body => Sys2Proof.Machine.execSetKeys tag body s
  | .setScannerLine tag body => Sys2Proof.Machine.execSetScannerLine tag body s
  | .setScannerIds tag body => Sys2Proof.Machine.execSetScannerIds tag body s
  | .setScannerChecks tag body => Sys2Proof.Machine.execSetScannerChecks tag body s
  | .setRepeat tag body => Sys2Proof.Machine.execSetRepeat tag body s
  | .setMeter tag body => Sys2Proof.Machine.execSetMeter tag body s
  | .resyncScanner tag body => Sys2Proof.Machine.execResyncScanner tag body s
  | .writeRule tag body => Sys2Proof.Machine.execWriteRule tag body s
  | .readRule tag body => Sys2Proof.Machine.execReadRule tag body s
  | .clearRule tag body => Sys2Proof.Machine.execClearRule tag body s
  | .setProfile tag body => Sys2Proof.Machine.execSetProfile tag body s
  | .setAdmission tag body => Sys2Proof.Machine.execSetAdmission tag body s
  | .fetch tag body => Sys2Proof.Machine.execFetch tag body s
  | .flush tag body => Sys2Proof.Machine.execFlush tag body s
  | .await tag body => Sys2Proof.Machine.execAwait tag body s
  | .cancelAwait tag body => Sys2Proof.Machine.execCancelAwait tag body s
  | .setDrawer tag body => Sys2Proof.Machine.execSetDrawer tag body s
  | .openDrawer tag body => Sys2Proof.Machine.execOpenDrawer tag body s
  | .setInterlock tag body => Sys2Proof.Machine.execSetInterlock tag body s
  | .releaseInterlock tag body => Sys2Proof.Machine.execReleaseInterlock tag body s
  | .readInterlocks tag body => Sys2Proof.Machine.execReadInterlocks tag body s
  | .setOutput tag body => Sys2Proof.Machine.execSetOutput tag body s
  | .setPattern tag body => Sys2Proof.Machine.execSetPattern tag body s
  | .enterAttendant tag body => Sys2Proof.Machine.execEnterAttendant tag body s
  | .leaveAttendant tag body => Sys2Proof.Machine.execLeaveAttendant tag body s
  | .readCounters tag body => Sys2Proof.Machine.execReadCounters tag body s
  | .clearCounters tag body => Sys2Proof.Machine.execClearCounters tag body s
  | .hostByteReceived value => Sys2Proof.Machine.execHostByteReceived value s
  | .linkGapExpiry => Sys2Proof.Machine.execLinkGapExpiry s
  | .takeRequest => Sys2Proof.Machine.execTakeRequest s
  | .frameSent => Sys2Proof.Machine.execFrameSent s
  | .readyNotice => Sys2Proof.Machine.execReadyNotice s
  | .partReset cause straps => Sys2Proof.Machine.execPartReset cause straps s
  | .resetPartDrained straps => Sys2Proof.Machine.execResetPartDrained straps s
  | .awaitExpiry lane => Sys2Proof.Machine.execAwaitExpiry lane s
  | .keyChangeAccepted lane raw => Sys2Proof.Machine.execKeyChangeAccepted lane raw s
  | .typematicRepeat lane => Sys2Proof.Machine.execTypematicRepeat lane s
  | .firstSampleAbsorb lane raw => Sys2Proof.Machine.execFirstSampleAbsorb lane raw s
  | .keylockPatternAccepted lane inputs => Sys2Proof.Machine.execKeylockPatternAccepted lane inputs s
  | .keylockFault lane => Sys2Proof.Machine.execKeylockFault lane s
  | .scannerByte lane port value parityBit stopMark => Sys2Proof.Machine.execScannerByte lane port value parityBit stopMark s
  | .scannerBreak lane port => Sys2Proof.Machine.execScannerBreak lane port s
  | .scannerGapExpiry lane port => Sys2Proof.Machine.execScannerGapExpiry lane port s
  | .errorWindowBoundary lane port => Sys2Proof.Machine.execErrorWindowBoundary lane port s
  | .symbolTake lane => Sys2Proof.Machine.execSymbolTake lane s
  | .pacingRelease lane port => Sys2Proof.Machine.execPacingRelease lane port s
  | .pulseEnd lane => Sys2Proof.Machine.execPulseEnd lane s
  | .cooldownEnd lane => Sys2Proof.Machine.execCooldownEnd lane s
  | .drawerSenseOpen lane => Sys2Proof.Machine.execDrawerSenseOpen lane s
  | .drawerSenseClose lane => Sys2Proof.Machine.execDrawerSenseClose lane s
  | .confirmExpiry lane => Sys2Proof.Machine.execConfirmExpiry lane s
  | .queueExpiry lane => Sys2Proof.Machine.execQueueExpiry lane s
  | .leftOpen lane => Sys2Proof.Machine.execLeftOpen lane s
  | .interlockQualifyExpiry monitor => Sys2Proof.Machine.execInterlockQualifyExpiry monitor s
  | .patternStepEnd lane output => Sys2Proof.Machine.execPatternStepEnd lane output s
  | .blinkBoundary lane output => Sys2Proof.Machine.execBlinkBoundary lane output s

end Sys2Proof.Machine
end

