-- ==== Sys2Proof/Machine/Step.lean ====
section
/-!
DEFINITION. One step: the command at the front of the queue, or a tick of the Timebase on an empty queue.
-/

namespace Sys2Proof.Machine

/-- One millisecond of part time passes (R193, log 1). -/
def State.tick (s : State) : State := { s with time := s.time + 1 }

/-- Take the command at the front of the queue and carry it out on the state with the queue's rest; on an empty queue a
millisecond passes (log 1). -/
def step (s : State) : Host.Outcome State Fault Refusal :=
  match s.pending with
  | [] => .next s.tick
  | c :: rest => exec c { s with pending := rest }

/-- The state with the command that a table word spells put at the front of its queue; unchanged where the word spells
none. -/
def State.withFetchWord (s : State) (nbits w : Nat) : State :=
  match decodeTableWord nbits w with
  | some c => { s with pending := c :: s.pending }
  | none => s

end Sys2Proof.Machine
end

