-- ==== Sys2Proof/Safety.lean ====
section
/-!
DEFINITION. The terms claims are made in: what a run over the host line's bytes is, which command a request frame stands
for, and the invariants of the part that the spec states.
-/

namespace Sys2Proof.Machine

/-! ## Frames and requests -/

/-- The bytes of a run arrive on the host line one after another, at one part time. -/
def receiveBytes : List Byte → State → Host.Outcome State Fault Refusal
  | [], s => .next s
  | v :: l, s =>
    match exec (.hostByteReceived v) s with
    | .next t => receiveBytes l t
    | .fault r => .fault r
    | .refused r => .refused r

/-- The command that the request of a kind stands for; none where the kind names no request (R202). -/
def requestCommand (kind tag : Byte) (body : List Byte) : Option Instr :=
  match kind.toNat with
  | 0x01 => some (.identify tag body)
  | 0x02 => some (.readTime tag body)
  | 0x03 => some (.resetPart tag body)
  | 0x04 => some (.resetLane tag body)
  | 0x05 => some (.setLaneEnables tag body)
  | 0x06 => some (.readLaneStatus tag body)
  | 0x07 => some (.setKeyboard tag body)
  | 0x08 => some (.setKeys tag body)
  | 0x09 => some (.setScannerLine tag body)
  | 0x0A => some (.setScannerIds tag body)
  | 0x0B => some (.setScannerChecks tag body)
  | 0x0C => some (.setRepeat tag body)
  | 0x0D => some (.setMeter tag body)
  | 0x0E => some (.resyncScanner tag body)
  | 0x0F => some (.writeRule tag body)
  | 0x10 => some (.readRule tag body)
  | 0x11 => some (.clearRule tag body)
  | 0x12 => some (.setProfile tag body)
  | 0x13 => some (.setAdmission tag body)
  | 0x14 => some (.fetch tag body)
  | 0x15 => some (.flush tag body)
  | 0x16 => some (.await tag body)
  | 0x17 => some (.cancelAwait tag body)
  | 0x18 => some (.setDrawer tag body)
  | 0x19 => some (.openDrawer tag body)
  | 0x1A => some (.setInterlock tag body)
  | 0x1B => some (.releaseInterlock tag body)
  | 0x1C => some (.readInterlocks tag body)
  | 0x1D => some (.setOutput tag body)
  | 0x1E => some (.setPattern tag body)
  | 0x1F => some (.enterAttendant tag body)
  | 0x20 => some (.leaveAttendant tag body)
  | 0x21 => some (.readCounters tag body)
  | 0x22 => some (.clearCounters tag body)
  | _ => none

/-- The reply to the request just taken joins the transmit path: its body is the status, the kind of the request and the
fields (R190, R200). -/
def State.replied (s : State) (tag kind : Byte) (st : Status) (fields : List Byte) : State :=
  s.push { tag := tag, kind := 0x80, body := st.code :: kind :: fields, origin := .taken }

/-- A request of one body length: a body of another length is refused with BAD_ARGUMENT and changes nothing else. -/
def WrongLengthRefused (c : Byte → List Byte → Instr) (kind : Byte) (n : Nat) : Prop :=
  ∀ tag b s, tag ≠ 0 → b.length ≠ n → exec (c tag b) s = .next (s.replied tag kind .badArgument [])

/-- A request whose body begins with a lane: a lane above 3 is refused with BAD_LANE and changes nothing else. -/
def BadLaneRefused (c : Byte → List Byte → Instr) (kind : Byte) (n : Nat) : Prop :=
  ∀ tag l b s, tag ≠ 0 → (l :: b).length = n → 3 < l.toNat →
    exec (c tag (l :: b)) s = .next (s.replied tag kind .badLane [])

/-- A request whose body begins with a lane and a port: a port other than A or B is refused with BAD_ARGUMENT and changes
nothing else. -/
def BadPortRefused (c : Byte → List Byte → Instr) (kind : Byte) (n : Nat) : Prop :=
  ∀ tag (q : LaneId) p b s, tag ≠ 0 → (laneByte q :: p :: b).length = n → 1 < p.toNat →
    exec (c tag (laneByte q :: p :: b)) s = .next (s.replied tag kind .badArgument [])

/-- The command, where it stands at the front of the queue or is taken from the receive buffer, clears counters. -/
def State.clearsCounters (s : State) : Instr → Prop
  | .clearCounters _ _ => True
  | .takeRequest => s.link.buffer.head?.map RequestFrame.kind = some 0x22
  | _ => False

/-- The accounting of a lane queue (section 1.3.1), modulo 2^32: what was admitted was fetched, flushed or evicted, or is
still held. -/
def State.Accounted (s : State) : Prop :=
  ∀ q, (s.store.queues.get q).counters.admitted =
    (s.store.queues.get q).counters.fetched + (s.store.queues.get q).counters.flushed +
      (s.store.queues.get q).counters.evicted + BitVec.ofNat 32 (s.store.occ q)

/-! ## The search of the Classification Table (R37) -/

/-- No VALID rule that matches the event claims the action. -/
def ClassTable.unclaimed (t : ClassTable) (x : Subject) (mode : ActionModes → ActionMode) : Prop :=
  ∀ (n : Fin 64) (r : RuleRecord), t.rule n = some r → r.fits x = true → mode r.modes = .off

/-- The record r claims the action for the event: it is the content of the lowest VALID rule that matches and whose mode
for the action is not OFF. -/
def ClassTable.claimedBy (t : ClassTable) (x : Subject) (mode : ActionModes → ActionMode) (r : RuleRecord) : Prop :=
  ∃ n : Fin 64, t.rule n = some r ∧ r.fits x = true ∧ mode r.modes ≠ .off ∧
    ∀ (m : Fin 64) (r' : RuleRecord), m < n → t.rule m = some r' → r'.fits x = true → mode r'.modes = .off

/-! ## The order of blocked keys (R64) -/

/-- Blocked keys in the order of their press times, seen from a moment, and of position at one press time. -/
def InPressOrder (now : Time) (l : List BlockedKey) : Prop :=
  l.Pairwise fun a b =>
    elapsed now b.pressTime < elapsed now a.pressTime ∨
      (a.pressTime = b.pressTime ∧ a.position.val < b.position.val)

/-! ## How the monitors follow their conditions (R157) -/

/-- The monitors take the changes due in state s, one at a time in some order, and with them every change that a turn
brings about; t is what they leave. -/
inductive MonitorsFollow : List MonitorId → State → State → Prop where
  | done (s : State) : MonitorsFollow [] s s
  | turn (due rest : List MonitorId) (i : MonitorId) (s u v t : State) :
      due.Perm (i :: rest) → (u = s ∨ u = { s with freeIndex := s.freeIndex + 1 }) →
      v = u.turnMonitor i s.time ((s.monitor i).takeMatch s.time (!(s.monitor i).isMatch)) →
      MonitorsFollow (rest ++ s.rematched v) v t → MonitorsFollow due s t

/-! ## Invariants -/

/-- The reserves are in their range and the events held beyond them fit the shared pool (R3). -/
def State.StoreFits (s : State) : Prop :=
  (∀ q, (s.store.queues.get q).reserve ≤ 32) ∧ s.store.sharedUsage ≤ s.store.poolSize

/-- The buckets of every Scan Meter stay within their capacities (R126). -/
def State.MetersFit (s : State) : Prop :=
  ∀ q p, (s.meter q p).steady ≤ (s.meter q p).steadyCapacity * 1000 ∧
    (s.meter q p).burst ≤ (s.meter q p).burstCapacity * 1000

/-- No lane reports more keys than its rollover limit (R62), a lane whose KEYBOARD enable is off reports none (R68), and
the keys reported stand in ascending position order (log 21). -/
def State.KeysFit (s : State) : Prop :=
  ∀ q, (s.keyboards.get q).reported.length ≤ (s.keyboards.get q).settings.rolloverLimit ∧
    ((s.modes.get q).current.keyboard = false → (s.keyboards.get q).reported = []) ∧
    ((s.keyboards.get q).reported.map ReportedKey.position).Pairwise (· ≤ ·)

/-- Every recent-symbol list holds at most 8 entries, and no two of them share both symbology and data (R112). -/
def State.RecentFits (s : State) : Prop :=
  ∀ q, (s.checkers.get q).recent.length ≤ 8 ∧
    ((s.checkers.get q).recent.map fun e => (e.code, e.data)).Nodup

/-- The alignment state and what is held in it agree (R87, R92): frames are held in CANDIDATE only, at most 3 of them
and as many as the candidate count, and the error window runs exactly in LOCKED. -/
def ScannerPort.Consistent (x : ScannerPort) : Prop :=
  x.line.lockCount ≤ 4 ∧ x.hold.length = x.candidateCount ∧ x.candidateCount ≤ 3 ∧
    (x.alignment ≠ .candidate → x.candidateCount = 0) ∧ (x.window.isSome ↔ x.alignment = .locked)

/-- Every Scanner Port is consistent. -/
def State.PortsConsistent (s : State) : Prop := ∀ q p, (s.port q p).Consistent

/-- A port's receiver is on exactly while its enable is on, and with its receiver off the port stands in HUNT (R79,
R96). -/
def State.PortsFollowEnables (s : State) : Prop :=
  ∀ q p, (s.port q p).receiverOn = (s.modes.get q).current.port p ∧
    ((s.port q p).receiverOn = false → (s.port q p).alignment = .hunt)

/-- Every inhibit output is at the level its four sources give (R166): a forced inhibit, the port's enable being off, a
pacing hold, and the host value ON. -/
def State.InhibitsTrack (s : State) : Prop :=
  ∀ q p, ((s.outputs.get q).inhibits.get p).level = .on ↔
    (s.interlocks.conditions.get q).forced p = true ∨ (s.modes.get q).current.port p = false ∨
      (s.meter q p).holds = true ∨ ((s.outputs.get q).inhibits.get p).host = .on

/-- The drawer state is OPEN exactly while the debounced sense value is open (R135). -/
def State.DrawersFollowSense (s : State) : Prop := ∀ q, (s.drawers.get q).isOpen = (s.drawers.get q).senseOpen

/-- No drawer of a lane under a drawer lockout waits for a grant (R139, R149). -/
def State.LockoutHolds (s : State) : Prop :=
  ∀ q, (s.interlocks.conditions.get q).lockedOut = true → (s.drawers.get q).isQueued = false

/-- The receive buffer and the OVERRUN replies of the transmit path stay within their capacities (R188). -/
def State.LinkFits (s : State) : Prop := s.link.buffer.length ≤ 4 ∧ s.link.overruns ≤ 8

/-- A lane holds one of the drive slots. -/
def Arbiter.holds (a : Arbiter) (q : LaneId) : Prop := a.slot1 = some q ∨ a.slot2 = some q

/-- The drawers and the arbiter agree (R139): a drawer is DRIVING exactly while its lane holds a slot, and QUEUED
exactly while its request waits; no lane holds both slots, and no lane waits twice. -/
def State.DriveAgrees (s : State) : Prop :=
  (∀ q, (s.drawers.get q).isDriving = true ↔ s.arbiter.holds q) ∧
    (∀ q, (s.drawers.get q).isQueued = true ↔ q ∈ s.arbiter.waiting) ∧
    (∀ q, s.arbiter.slot1 = some q → s.arbiter.slot2 ≠ some q) ∧ s.arbiter.waiting.Nodup

/-- The drawers now DRIVING. -/
def State.driving (s : State) : List LaneId := allLanes.filter fun q => (s.drawers.get q).isDriving

/-- Every monitor's match is what its condition gives, and false where the monitor is disabled (R157). -/
def State.MonitorsTrack (s : State) : Prop :=
  ∀ i, (s.monitor i).isMatch = s.matchOf (s.monitor i).settings

/-- The effect conditions are those the ACTIVE monitors give (R161). -/
def State.EffectsTrack (s : State) : Prop := s.interlocks.conditions = allConditions s.interlocks.monitors

/-- The states a monitor can stand in (R157 to R159): disabled, it is INACTIVE; INACTIVE while enabled or disabled, it
does not match; QUALIFYING, it matches; ACTIVE and FOLLOWING, it matches. -/
def Monitor.Legal (m : Monitor) : Prop :=
  match m.state with
  | .inactive => m.isMatch = false
  | .qualifying _ => m.settings.enabled = true ∧ m.isMatch = true
  | .active => m.settings.enabled = true ∧ (m.settings.latched = false → m.isMatch = true)

end Sys2Proof.Machine
end

