-- ==== Sys2Proof/Certificates/Slice0/Obligations.lean ====
section
/-!
DEFINITION. The statements for the provers, block by block. A result is stated as the whole next state, so that it is a
frame as well: what the expression does not name is unchanged. Where a command produces events, its next state is said
with `produce` (the event path, itself the subject of statements below) and `settle` (what the Interlock Monitors do with
a change of their conditions, likewise).
-/

open Sys2Proof Sys2Proof.Machine

/-! ## The block as a whole -/

/-- A step takes the command at the front of the queue and carries it out on the state with the queue's rest. -/
def Obligations.StepTakesFrontCommand : Prop :=
  ∀ (c : Instr) (rest : List Instr) (s : State),
    step { s with pending := c :: rest } = exec c { s with pending := rest }

/-- Every command, in every state, with every operand, ends in a next state that keeps the queue; and no command but a
part reset changes the part time, which it sets to 0. On an empty queue a step lets one millisecond of part time pass,
modulo 2^32, and changes nothing else. That the tick is the step of an empty queue is the model's choice (log 1). -/
def Obligations.EveryStepCompletes : Prop :=
  (∀ (c : Instr) (s : State), ∃ t, exec c s = .next t ∧ t.pending = s.pending ∧ (t.time = s.time ∨ t.time = 0) ∧
     ((∀ x y, c ≠ .partReset x y) → (∀ y, c ≠ .resetPartDrained y) → t.time = s.time)) ∧
  (∀ s : State, s.pending = [] → step s = .next { s with time := s.time + 1 })

/-! ## Part resets -/

/-- A power-on or pin reset leaves the Link Controller and the Timebase as the table of R197 gives them, with one
STARTED notice, of tag 0, the cause and the revision 1, in the transmit path. The model's own queue and count of free
orders stay (log 8). -/
def Obligations.PartReset : Prop :=
  ∀ (x : ResetPin) (straps : BitVec 2) (s : State), ∃ t, exec (.partReset x straps) s = .next t ∧
    t.time = 0 ∧ t.link.rateCode = straps ∧ t.link.receiver = .hunting ∧ t.link.buffer = [] ∧
    t.link.cause = (match x with | .power => ResetCause.power | .pin => ResetCause.pin) ∧
    t.link.transmit =
      [{ tag := 0, kind := 0xF0, body := [match x with | .power => 0 | .pin => 1, 1], origin := .started }] ∧
    t.link.readyPending = 0 ∧ t.link.resetting = false ∧
    t.link.counters = { goodFrames := 0, badCrc := 0, gap := 0, overrun := 0, unknownKind := 0 } ∧
    t.pending = s.pending ∧ t.freeIndex = s.freeIndex

/-- After a part reset, and in the state after reset, every block but the Link Controller holds what the tables of R27,
R52, R78, R105, R124, R134, R156, R172 and R183 give. What the tables leave open, such as the raw values of the key
lock, is the model's choice and is compared with the state after reset only (log 9). -/
def Obligations.ResetValues : Prop :=
  ((∀ (x : ResetPin) (straps : BitVec 2) (s : State), ∃ t, exec (.partReset x straps) s = .next t ∧
     t.store = State.reset.store) ∧
   (∀ q : LaneId, (State.reset.store.queues.get q).events = [] ∧ (State.reset.store.queues.get q).lost = 0 ∧
     (State.reset.store.queues.get q).nextSequence = 0 ∧ (State.reset.store.queues.get q).wait = none ∧
     (State.reset.store.queues.get q).reserve = 16 ∧ (State.reset.store.queues.get q).watermark = 48 ∧
     (State.reset.store.queues.get q).counters.list = List.replicate 10 0) ∧
   State.reset.store.poolSize = 192 ∧ State.reset.store.laneLimits = { entry := 96, scan := 64, bulk := 32 } ∧
   State.reset.store.sharedLimits = { entry := 176, scan := 160, bulk := 128 } ∧ State.reset.link.readyPending = 0) ∧
  ((∀ (x : ResetPin) (straps : BitVec 2) (s : State), ∃ t, exec (.partReset x straps) s = .next t ∧
     t.keyboards = State.reset.keyboards ∧ t.scanners = State.reset.scanners ∧ t.checkers = State.reset.checkers ∧
     t.meters = State.reset.meters ∧ t.drawers = State.reset.drawers ∧ t.arbiter = State.reset.arbiter) ∧
   (∀ q : LaneId, (State.reset.keyboards.get q).settings =
       { rows := 8, columns := 16, grain10 := false, debounceCount := 10, rolloverLimit := 6, typematicDelay := 500,
         typematicInterval := 100, keylockCount := 5, keylockFaultTime := 500 } ∧
     (State.reset.keyboards.get q).debounced = 0 ∧ (State.reset.keyboards.get q).reported = [] ∧
     (State.reset.keyboards.get q).waiting = [] ∧ (State.reset.keyboards.get q).blocked = [] ∧
     (State.reset.keyboards.get q).absorbed = 0 ∧ (State.reset.keyboards.get q).typematic = none ∧
     (∀ p : KeyPos, (State.reset.keyboards.get q).keyTable.get p = { code := 0, repeatable := false, repeatRelease := false }) ∧
     (State.reset.keyboards.get q).keylock =
       { position := .unknown, previousRaw := none, debounced := none, rawChange := 0, faultTimer := none } ∧
     (State.reset.keyboards.get q).counters.list = List.replicate 4 0) ∧
   (∀ (q : LaneId) (p : PortId), (State.reset.port q p).receiverOn = false ∧ (State.reset.port q p).framing = .skipping ∧
     (State.reset.port q p).bytes = [] ∧ (State.reset.port q p).alignment = .hunt ∧
     (State.reset.port q p).candidateCount = 0 ∧ (State.reset.port q p).hold = [] ∧
     (State.reset.port q p).consecutiveBad = 0 ∧ (State.reset.port q p).window = none ∧
     (State.reset.port q p).windowCount = 0 ∧ (State.reset.port q p).excessReported = false ∧
     (State.reset.port q p).line =
       { format :=
           { rate := .r9600, parity := .none, prefixOn := false, prefixByte := 0x02, idOn := false, lrcOn := false,
             twoByteTerminator := false, terminator1 := 0x0D, terminator2 := 0x0A },
         minData := 1, maxData := 48, gapLimit := 50, lockCount := 2, lossCount := 3, windowSeconds := 10,
         excessLimit := 8, rehunt := true } ∧
     (∀ n : Fin 16, ((State.reset.port q p).idMap.get n).used = false) ∧
     (State.reset.port q p).counters.list = List.replicate 17 0) ∧
   (∀ q : LaneId, (State.reset.checkers.get q).recent = [] ∧ (State.reset.checkers.get q).holdTime = 500 ∧
     (∀ p : PortId, ∀ n : Nat, ((State.reset.checkers.get q).checks.get p).getLsbD n = true ↔ n = 1 ∨ n = 2 ∨ n = 3)) ∧
   (∀ (q : LaneId) (p : PortId), State.reset.meter q p =
     { rate := 8, steadyCapacity := 4, burstCapacity := 4, pacingOn := false, releaseLevel := 2, steady := 4000,
       burst := 4000, lastArrival := 0, pacing := .idle }) ∧
   (∀ q : LaneId, State.reset.drawers.get q =
     { state := .closed, cooldownEnd := none, fault := false, senseOpen := false, senseRaw := false, senseChange := 0,
       settings :=
         { pulseWidth := 80, confirmTimeout := 1000, leftOpenAlarm := 60, cooldown := 500, queueTimeout := 2000,
           senseCount := 3 },
       counters := { opensCommanded := 0, opensUncommanded := 0, opensFailed := 0, leftOpen := 0, abandoned := 0 } }) ∧
   State.reset.arbiter = { slot1 := none, slot2 := none, waiting := [] }) ∧
  ((∀ (x : ResetPin) (straps : BitVec 2) (s : State), ∃ t, exec (.partReset x straps) s = .next t ∧
     t.table = State.reset.table ∧ t.interlocks = State.reset.interlocks ∧ t.outputs = State.reset.outputs ∧
     t.patterns = State.reset.patterns ∧ t.modes = State.reset.modes) ∧
   (∀ n : Fin 64, State.reset.table.rule n = none) ∧
   (∀ n : Fin 8, State.reset.table.profiles.get n =
     { valueStart := 1, valueLength := 0, kind := .price, decimals := 0, checkPosition := 0, itemStart := 1,
       itemLength := 0 }) ∧
   (∀ n : Fin 32, State.reset.table.flow.get n = 0) ∧
   (∀ i : MonitorId, (State.reset.monitor i).state = .inactive ∧ (State.reset.monitor i).isMatch = false ∧
     (State.reset.monitor i).settings.enabled = false ∧ (State.reset.monitor i).settings.sourceLane = 0 ∧
     (State.reset.monitor i).settings.condition = .drawerOpen ∧ (State.reset.monitor i).settings.sense = true ∧
     (State.reset.monitor i).settings.qualify = 0 ∧ (State.reset.monitor i).settings.latched = false ∧
     (State.reset.monitor i).settings.targets = 0 ∧ (State.reset.monitor i).settings.effects = 0) ∧
   (∀ q : LaneId, State.reset.interlocks.conditions.get q =
     { muted := false, lockedOut := false, inhibitA := false, inhibitB := false }) ∧
   (∀ n : Fin 8, (State.reset.patterns.get n).count = 0 ∧
     ∀ i : Fin 4, (State.reset.patterns.get n).steps.get i = { level := .off, duration := 1 }) ∧
   (∀ q : LaneId, (State.reset.outputs.get q).lamp = { host := .off, playing := none, level := .off } ∧
     (State.reset.outputs.get q).tone = { host := .off, playing := none, level := .off } ∧
     ∀ p : PortId, (State.reset.outputs.get q).inhibits.get p = { host := .off, level := .on }) ∧
   (∀ q : LaneId, (State.reset.modes.get q).current.mask = 0 ∧ (State.reset.modes.get q).saved.mask = 0 ∧
     (State.reset.modes.get q).attendantSet.mask = 0 ∧ (State.reset.modes.get q).attendant = false))

/-- RESET_PART (R198 steps 1 to 3): the receiver is turned off, the reply is made, then a CANCELLED reply for each
frame of the receive buffer, oldest first, with the frame's tag and kind, and the buffer is emptied. The fields a
CANCELLED reply to an AWAIT or an OPEN_DRAWER carries are the model's reading (log 10; RequestTaken spells them). The
reset that ends RESET_PART (R198 step 4): with the reset waiting and the last message of the transmit path being sent,
or none left, the part resets with cause REQUEST; otherwise this command does nothing. That sending the last message is
this command, and what the host line then holds, is the model's choice (logs 15 and 18). -/
def Obligations.ResetPart : Prop :=
  (WrongLengthRefused .resetPart 0x03 0 ∧
   ∀ (tag : Byte) (s : State), tag ≠ 0 →
     exec (.resetPart tag []) s =
       .next
         { s with
           link :=
             { s.link with
               receiver := .off
               buffer := []
               transmit :=
                 s.link.transmit ++
                   { tag := tag, kind := 0x80, body := [0, 0x03], origin := .taken } ::
                     s.link.buffer.map fun f =>
                       { tag := f.tag, kind := 0x80, body := 13 :: f.kind :: s.refusalFields f.kind f.body,
                         origin := .cancelled }
               resetting := true } }) ∧
  ((∀ (straps : BitVec 2) (s : State) (m : Message), s.link.resetting = true → s.link.transmit = [m] →
     exec (.resetPartDrained straps) s =
       .next
         { State.afterReset .request straps with
           link := { Link.afterReset .request straps with hostLine := frameBytes m.tag m.kind m.body }
           freeIndex := s.freeIndex
           pending := s.pending }) ∧
   (∀ (straps : BitVec 2) (s : State), s.link.resetting = true → s.link.transmit = [] →
     exec (.resetPartDrained straps) s =
       .next { State.afterReset .request straps with freeIndex := s.freeIndex, pending := s.pending }) ∧
   (∀ (straps : BitVec 2) (s : State), s.link.resetting = false ∨ 2 ≤ s.link.transmit.length →
     exec (.resetPartDrained straps) s = .next s))

/-! ## The Link Controller and the Timebase (chapter 10) -/

/-- The bytes of a frame, sent one after another to a receiver that hunts, are received whole: with room in the receive
buffer, the request with its tag, kind and body joins the youngest end, the good-frames counter advances, and nothing
else changes. A checked frame that arrives while the receive buffer holds 4 frames does not join it (R188): the
good-frames and overrun counters advance, and an OVERRUN reply with its tag and kind is made if the transmit path holds
fewer than 8 of them. That the one being sent counts among the 8 is the model's reading (log 11), and so are the fields
of an OVERRUN reply to an AWAIT or an OPEN_DRAWER (log 10). The check of the nine bytes 0x31 to 0x39 is 0x29B1 (R186).
-/
def Obligations.FrameReceivedWhole : Prop :=
  (∀ (tag kind : Byte) (body : List Byte) (s : State), body.length ≤ 253 → s.link.receiver = .hunting →
     s.link.buffer.length < 4 →
     receiveBytes (frameBytes tag kind body) s =
       .next
         { s with
           link :=
             { s.link with
               buffer := s.link.buffer ++ [{ tag := tag, kind := kind, body := body }]
               counters := { s.link.counters with goodFrames := s.link.counters.goodFrames + 1 } } }) ∧
  (∀ (tag kind : Byte) (body : List Byte) (s : State), body.length ≤ 253 → s.link.receiver = .hunting →
     4 ≤ s.link.buffer.length →
     receiveBytes (frameBytes tag kind body) s =
       .next
         { s with
           link :=
             { s.link with
               counters :=
                 { s.link.counters with
                   goodFrames := s.link.counters.goodFrames + 1
                   overrun := s.link.counters.overrun + 1 }
               transmit :=
                 if s.link.overruns < 8 then
                   s.link.transmit ++
                     [{ tag := tag, kind := 0x80, body := 14 :: kind :: s.refusalFields kind body, origin := .overrun }]
                 else s.link.transmit } }) ∧
  (crc16 [0x31, 0x32, 0x33, 0x34, 0x35, 0x36, 0x37, 0x38, 0x39] = 0x29B1)

/-- A byte on the host line, by the position of the receiver (R187). In a frame, a byte up to 11 ms of part time after
the byte before it continues the frame: at 11 ms the gap's expiry and the byte come together and the byte is taken
first, which is the model's reading (log 2). A byte later than that comes after the gap's expiry: the frame is
discarded and counted, and the byte is examined as one that hunts (log 2). The last byte of a frame whose check holds
hands its tag, kind and body to the receive buffer (R186, R188), whatever the times of its bytes. The expiry of the
host line's gap timer (R187): while a frame is being received and more than 10 ms have elapsed since its last byte, the
frame is discarded and counted in the gap counter; otherwise nothing happens. -/
def Obligations.HostBytes : Prop :=
  ((∀ (v : Byte) (s : State), s.link.receiver = .off → exec (.hostByteReceived v) s = .next s) ∧
   (∀ (v : Byte) (s : State), s.link.receiver = .hunting →
     exec (.hostByteReceived v) s =
       .next (if v = 0xC3 then { s with link := { s.link with receiver := .inFrame [] s.time } } else s)) ∧
   (∀ (v : Byte) (last : Time) (s : State), s.link.receiver = .inFrame [] last → elapsed s.time last ≤ 11 →
     exec (.hostByteReceived v) s =
       .next
         (if v.toNat < 2 then
            { s with
              link :=
                { s.link with
                  receiver := .hunting
                  counters := { s.link.counters with badCrc := s.link.counters.badCrc + 1 } } }
          else { s with link := { s.link with receiver := .inFrame [v] s.time } })) ∧
   (∀ (v n : Byte) (l : List Byte) (last : Time) (s : State), s.link.receiver = .inFrame (n :: l) last →
     2 ≤ n.toNat → elapsed s.time last ≤ 11 → l.length + 2 < n.toNat + 3 →
     exec (.hostByteReceived v) s =
       .next { s with link := { s.link with receiver := .inFrame (n :: l ++ [v]) s.time } }) ∧
   (∀ (v n c : Byte) (l : List Byte) (last : Time) (s : State), s.link.receiver = .inFrame (n :: l ++ [c]) last →
     2 ≤ n.toNat → elapsed s.time last ≤ 11 → l.length = n.toNat → crc16 (n :: l) ≠ c ++ v →
     exec (.hostByteReceived v) s =
       .next
         { s with
           link :=
             { s.link with
               receiver := .hunting
               counters := { s.link.counters with badCrc := s.link.counters.badCrc + 1 } } }) ∧
   (∀ (v n c tag kind : Byte) (body : List Byte) (last : Time) (k : LinkCounters) (s : State),
     s.link.receiver = .inFrame (n :: tag :: kind :: body ++ [c]) last → elapsed s.time last ≤ 11 →
     body.length + 2 = n.toNat → crc16 (n :: tag :: kind :: body) = c ++ v →
     k = { s.link.counters with goodFrames := s.link.counters.goodFrames + 1 } →
     (s.link.buffer.length < 4 →
       exec (.hostByteReceived v) s =
         .next
           { s with
             link :=
               { s.link with
                 receiver := .hunting
                 counters := k
                 buffer := s.link.buffer ++ [{ tag := tag, kind := kind, body := body }] } }) ∧
     (4 ≤ s.link.buffer.length →
       exec (.hostByteReceived v) s =
         .next
           { s with
             link :=
               { s.link with
                 receiver := .hunting
                 counters := { k with overrun := k.overrun + 1 }
                 transmit :=
                   if (s.link.transmit.filter fun m => m.origin == .overrun).length < 8 then
                     s.link.transmit ++
                       [{ tag := tag, kind := 0x80, body := 14 :: kind :: s.refusalFields kind body, origin := .overrun }]
                   else s.link.transmit } })) ∧
   (∀ (v : Byte) (l : List Byte) (last : Time) (s : State), s.link.receiver = .inFrame l last →
     11 < elapsed s.time last →
     exec (.hostByteReceived v) s =
       .next
         { s with
           link :=
             { s.link with
               receiver := if v = 0xC3 then .inFrame [] s.time else .hunting
               counters := { s.link.counters with gap := s.link.counters.gap + 1 } } })) ∧
  ((∀ (l : List Byte) (last : Time) (s : State), s.link.receiver = .inFrame l last → 10 < elapsed s.time last →
     exec .linkGapExpiry s =
       .next
         { s with
           link :=
             { s.link with
               receiver := .hunting
               counters := { s.link.counters with gap := s.link.counters.gap + 1 } } }) ∧
   (∀ (l : List Byte) (last : Time) (s : State), s.link.receiver = .inFrame l last → elapsed s.time last ≤ 10 →
     exec .linkGapExpiry s = .next s) ∧
   (∀ s : State, s.link.receiver = .hunting ∨ s.link.receiver = .off → exec .linkGapExpiry s = .next s))

/-- A request of tag 0 is refused with BAD_ARGUMENT whatever its kind and body, and changes nothing else (R189 test 1).
Its fields, as those of an OVERRUN or CANCELLED reply, are none but for AWAIT and OPEN_DRAWER, where R207 gives fields
and the model what they hold (log 10). The Link Controller takes the oldest request of the receive buffer once no reply
to a request taken before, and no STARTED notice, is left unsent; it leaves the buffer, and is carried out as the
command its kind names; a kind that names no request is refused with UNKNOWN_KIND and counted; tag 0 is refused first
(R189). -/
def Obligations.RequestTaken : Prop :=
  ((∀ (kind : Byte) (body : List Byte) (c : Instr) (s : State), requestCommand kind 0 body = some c →
     exec c s = .next (s.replied 0 kind .badArgument (s.refusalFields kind body))) ∧
   (∀ (kind : Byte) (body : List Byte) (s : State), kind ≠ 0x16 → kind ≠ 0x19 → s.refusalFields kind body = []) ∧
   (∀ (body : List Byte) (s : State),
     s.refusalFields 0x16 body = s.awaitRefusal body ∧ s.refusalFields 0x19 body = s.openFields body)) ∧
  ((∀ s : State, s.link.buffer = [] → exec .takeRequest s = .next s) ∧
   (∀ (s : State) (m : Message), m ∈ s.link.transmit → m.origin = .taken ∨ m.origin = .started →
     exec .takeRequest s = .next s) ∧
   (∀ (s : State) (f : RequestFrame) (l : List RequestFrame) (c : Instr), s.link.buffer = f :: l →
     (∀ m ∈ s.link.transmit, m.origin ≠ .taken ∧ m.origin ≠ .started) → requestCommand f.kind f.tag f.body = some c →
     exec .takeRequest s = exec c { s with link := { s.link with buffer := l } }) ∧
   (∀ (s : State) (f : RequestFrame) (l : List RequestFrame), s.link.buffer = f :: l →
     (∀ m ∈ s.link.transmit, m.origin ≠ .taken ∧ m.origin ≠ .started) → requestCommand f.kind f.tag f.body = none →
     exec .takeRequest s =
       .next
         (if f.tag = 0 then
            { s with link := { s.link with buffer := l } }.replied 0 f.kind .badArgument []
          else
            { s with
              link :=
                { s.link with
                  buffer := l
                  counters := { s.link.counters with unknownKind := s.link.counters.unknownKind + 1 } } }.replied
              f.tag f.kind .unknownKind [])))

/-- The transmit path is sent one whole frame at a time, oldest first (R190): the frame being sent leaves the path and
stands whole on the host line. The last frame after RESET_PART is left to RESET_PART_DRAINED (log 15). A READY notice
(R191): with the transmit path empty, lanes pending and no RESET_PART taken, one notice of tag 0 with the set of lanes
and the four occupancies is made, and the set is emptied; otherwise none is made. -/
def Obligations.Sending : Prop :=
  ((∀ s : State, s.link.transmit = [] → exec .frameSent s = .next s) ∧
   (∀ (s : State) (m : Message) (l : List Message), s.link.transmit = m :: l → s.link.resetting = false ∨ l ≠ [] →
     exec .frameSent s =
       .next { s with link := { s.link with transmit := l, hostLine := frameBytes m.tag m.kind m.body } }) ∧
   (∀ (s : State) (m : Message), s.link.transmit = [m] → s.link.resetting = true → exec .frameSent s = .next s)) ∧
  ((∀ s : State, s.link.transmit = [] → s.link.readyPending ≠ 0 → s.link.resetting = false →
     exec .readyNotice s =
       .next
         { s with
           link :=
             { s.link with
               readyPending := 0
               transmit :=
                 [{ tag := 0, kind := 0xF1,
                    body :=
                      s.link.readyPending.setWidth 8 ::
                        (num2 (s.store.occ 0) ++ num2 (s.store.occ 1) ++ num2 (s.store.occ 2) ++ num2 (s.store.occ 3)),
                    origin := .ready }] } }) ∧
   (∀ s : State, s.link.transmit ≠ [] ∨ s.link.readyPending = 0 ∨ s.link.resetting = true →
     exec .readyNotice s = .next s))

/-- IDENTIFY reports the identity code 0x0C41, revision 1, 4 lanes, 8 ports, 256 slots, 64 rules, the line rate's code,
the cause of the last part reset and the part time (R194); READ_TIME reports the part time (R193). -/
def Obligations.IdentityAndTime : Prop :=
  WrongLengthRefused .identify 0x01 0 ∧ WrongLengthRefused .readTime 0x02 0 ∧
  (∀ (tag : Byte) (s : State), tag ≠ 0 →
    exec (.identify tag []) s =
      .next (s.replied tag 0x01 .ok
        ([0x0C, 0x41, 1, 4, 8, 1, 0, 64, s.link.rateCode.setWidth 8,
          match s.link.cause with | .power => 0 | .pin => 1 | .request => 2] ++ wordBytes s.time))) ∧
  (∀ (tag : Byte) (s : State), tag ≠ 0 →
    exec (.readTime tag []) s = .next (s.replied tag 0x02 .ok (wordBytes s.time)))

/-- READ_COUNTERS reports the group's counters, in the order of R195, after the group, lane and port as given and their
number, and changes nothing; its tests are made in the order of R195. CLEAR_COUNTERS of one group and scope sets its
counters, and nothing else, to 0 and reports what they held, as READ_COUNTERS does; ALL sets every counter of the part
to 0 and reports none (R196). -/
def Obligations.Counters : Prop :=
  (WrongLengthRefused .readCounters 0x21 3 ∧
   (∀ (tag g l p : Byte) (s : State), tag ≠ 0 → 5 < g.toNat →
     exec (.readCounters tag [g, l, p]) s = .next (s.replied tag 0x21 .badIndex [])) ∧
   (∀ (tag g l p : Byte) (s : State), tag ≠ 0 → 1 ≤ g.toNat → g.toNat ≤ 4 → 3 < l.toNat →
     exec (.readCounters tag [g, l, p]) s = .next (s.replied tag 0x21 .badLane [])) ∧
   (∀ (tag p : Byte) (q : LaneId) (s : State), tag ≠ 0 → 1 < p.toNat →
     exec (.readCounters tag [3, laneByte q, p]) s = .next (s.replied tag 0x21 .badArgument [])) ∧
   (∀ (tag l p : Byte) (s : State), tag ≠ 0 →
     exec (.readCounters tag [0, l, p]) s =
       .next (s.replied tag 0x21 .ok
         ([0, l, p, 5] ++ [s.link.counters.goodFrames, s.link.counters.badCrc, s.link.counters.gap,
           s.link.counters.overrun, s.link.counters.unknownKind].flatMap wordBytes))) ∧
   (∀ (tag p : Byte) (q : LaneId) (c : QueueCounters) (s : State), tag ≠ 0 → c = (s.store.queues.get q).counters →
     exec (.readCounters tag [1, laneByte q, p]) s =
       .next (s.replied tag 0x21 .ok
         ([1, laneByte q, p, 10] ++ [c.admitted, c.fetched, c.flushed, c.evicted, c.lostEntry, c.lostScan, c.lostBulk,
           c.lostCritical, c.filtered, c.redirectedIn].flatMap wordBytes))) ∧
   (∀ (tag p : Byte) (q : LaneId) (c : KeyboardCounters) (s : State), tag ≠ 0 → c = (s.keyboards.get q).counters →
     exec (.readCounters tag [2, laneByte q, p]) s =
       .next (s.replied tag 0x21 .ok
         ([2, laneByte q, p, 4] ++ [c.presses, c.ghostBlocks, c.rolloverHolds, c.muted].flatMap wordBytes))) ∧
   (∀ (tag : Byte) (q : LaneId) (p : PortId) (c : PortCounters) (s : State), tag ≠ 0 → c = (s.port q p).counters →
     exec (.readCounters tag [3, laneByte q, portByte p]) s =
       .next (s.replied tag 0x21 .ok
         ([3, laneByte q, portByte p, 17] ++ [c.goodFrames, c.badPrefix, c.badLength, c.badCharset, c.badLrc,
           c.byteError, c.gap, c.overlength, c.checkFailures, c.lockLosses, c.excessEvents, c.heldDiscarded, c.inhibited,
           c.repeatsSuppressed, c.steady, c.burst, c.flood].flatMap wordBytes))) ∧
   (∀ (tag p : Byte) (q : LaneId) (c : DrawerCounters) (s : State), tag ≠ 0 → c = (s.drawers.get q).counters →
     exec (.readCounters tag [4, laneByte q, p]) s =
       .next (s.replied tag 0x21 .ok
         ([4, laneByte q, p, 5] ++ [c.opensCommanded, c.opensUncommanded, c.opensFailed, c.leftOpen,
           c.abandoned].flatMap wordBytes))) ∧
   (∀ (tag l p : Byte) (s : State), tag ≠ 0 →
     exec (.readCounters tag [5, l, p]) s =
       .next (s.replied tag 0x21 .ok ([5, l, p, 32] ++ s.table.flow.toList.flatMap wordBytes)))) ∧
  (WrongLengthRefused .clearCounters 0x22 3 ∧
   (∀ (tag g l p : Byte) (s : State), tag ≠ 0 → 6 < g.toNat →
     exec (.clearCounters tag [g, l, p]) s = .next (s.replied tag 0x22 .badIndex [])) ∧
   (∀ (tag g l p : Byte) (s : State), tag ≠ 0 → 1 ≤ g.toNat → g.toNat ≤ 4 → 3 < l.toNat →
     exec (.clearCounters tag [g, l, p]) s = .next (s.replied tag 0x22 .badLane [])) ∧
   (∀ (tag p : Byte) (q : LaneId) (s : State), tag ≠ 0 → 1 < p.toNat →
     exec (.clearCounters tag [3, laneByte q, p]) s = .next (s.replied tag 0x22 .badArgument [])) ∧
   (∀ (tag l p : Byte) (s : State), tag ≠ 0 →
     exec (.clearCounters tag [0, l, p]) s =
       .next ({ s with link := { s.link with counters := ⟨0, 0, 0, 0, 0⟩ } }.replied tag 0x22 .ok
         ([0, l, p, 5] ++ s.link.counters.list.flatMap wordBytes))) ∧
   (∀ (tag p : Byte) (q : LaneId) (s : State), tag ≠ 0 →
     exec (.clearCounters tag [1, laneByte q, p]) s =
       .next ((s.withQueue q { s.store.queues.get q with counters := ⟨0, 0, 0, 0, 0, 0, 0, 0, 0, 0⟩ }).replied tag 0x22 .ok
         ([1, laneByte q, p, 10] ++ (s.store.queues.get q).counters.list.flatMap wordBytes))) ∧
   (∀ (tag p : Byte) (q : LaneId) (s : State), tag ≠ 0 →
     exec (.clearCounters tag [2, laneByte q, p]) s =
       .next ((s.withKeyboard q { s.keyboards.get q with counters := ⟨0, 0, 0, 0⟩ }).replied tag 0x22 .ok
         ([2, laneByte q, p, 4] ++ (s.keyboards.get q).counters.list.flatMap wordBytes))) ∧
   (∀ (tag : Byte) (q : LaneId) (p : PortId) (s : State), tag ≠ 0 →
     exec (.clearCounters tag [3, laneByte q, portByte p]) s =
       .next ((s.withPort q p
           { s.port q p with counters := ⟨0, 0, 0, 0, 0, 0, 0, 0, 0, 0, 0, 0, 0, 0, 0, 0, 0⟩ }).replied tag 0x22 .ok
         ([3, laneByte q, portByte p, 17] ++ (s.port q p).counters.list.flatMap wordBytes))) ∧
   (∀ (tag p : Byte) (q : LaneId) (s : State), tag ≠ 0 →
     exec (.clearCounters tag [4, laneByte q, p]) s =
       .next ((s.withDrawer q { s.drawers.get q with counters := ⟨0, 0, 0, 0, 0⟩ }).replied tag 0x22 .ok
         ([4, laneByte q, p, 5] ++ (s.drawers.get q).counters.list.flatMap wordBytes))) ∧
   (∀ (tag l p : Byte) (s : State), tag ≠ 0 →
     exec (.clearCounters tag [5, l, p]) s =
       .next ({ s with table := { s.table with flow := Vector.replicate 32 0 } }.replied tag 0x22 .ok
         ([5, l, p, 32] ++ s.table.flow.toList.flatMap wordBytes))) ∧
   (∀ (tag l p : Byte) (s : State), tag ≠ 0 →
     exec (.clearCounters tag [6, l, p]) s =
       .next
         ({ s with
             link := { s.link with counters := ⟨0, 0, 0, 0, 0⟩ }
             table := { s.table with flow := Vector.replicate 32 0 }
             store :=
               { s.store with
                 queues := s.store.queues.map fun (x : LaneQueue) => { x with counters := ⟨0, 0, 0, 0, 0, 0, 0, 0, 0, 0⟩ } }
             keyboards := s.keyboards.map fun (x : Keyboard) => { x with counters := ⟨0, 0, 0, 0⟩ }
             scanners :=
               s.scanners.map
                 (Ports.map fun (x : ScannerPort) =>
                   { x with counters := ⟨0, 0, 0, 0, 0, 0, 0, 0, 0, 0, 0, 0, 0, 0, 0, 0, 0⟩ })
             drawers := s.drawers.map fun (x : Drawer) => { x with counters := ⟨0, 0, 0, 0, 0⟩ } }.replied tag 0x22 .ok
           [6, l, p, 0])))

/-! ## The Event Store (chapter 1) -/

/-- The five admission tests of R5 on an event offered to queue q, in order, with the outcome each gives: refused (R7),
admitted at the youngest end (R8), or admitted after an eviction (R6). A refusal adds 1 to L_q, which saturates at
65535, and to the lane's lost counter of the class (R7); an admission joins the youngest end with the queue's sequence
number, which advances modulo 2^16, takes L_q as its lost_before and leaves L_q 0 (R2, R8), and advances admitted, and
redirected-in for a redirected event (R10, R26). -/
def Obligations.Admission : Prop :=
  (∀ (st : EventStore) (q : LaneId) (e : Event) (redirected : Bool) (x : LaneQueue), x = st.queues.get q →
     ((∃ l, st.laneLimits.of e.cls = some l ∧ l ≤ st.occ q) →
       st.offer q e redirected = (st.withQueue q (x.refuse e.cls), false)) ∧
     ((∀ l, st.laneLimits.of e.cls = some l → st.occ q < l) →
       (st.occ q < x.reserve → st.offer q e redirected = (st.withQueue q (x.admitEvent e redirected), true)) ∧
       (x.reserve ≤ st.occ q →
         (st.sharedUsage < st.poolSize → (∀ l, st.sharedLimits.of e.cls = some l → st.sharedUsage < l) →
           st.offer q e redirected = (st.withQueue q (x.admitEvent e redirected), true)) ∧
         (st.poolSize ≤ st.sharedUsage ∨ (∃ l, st.sharedLimits.of e.cls = some l ∧ l ≤ st.sharedUsage) →
           (e.cls = .critical → (∃ r ∈ x.events, r.event.cls ≠ .critical) →
             st.offer q e redirected = (st.withQueue q (x.evict.admitEvent e redirected), true)) ∧
           (e.cls ≠ .critical ∨ (∀ r ∈ x.events, r.event.cls = .critical) →
             st.offer q e redirected = (st.withQueue q (x.refuse e.cls), false)))))) ∧
  ((∀ (x : LaneQueue) (c : EventClass),
     x.refuse c =
       { x with
         lost := min 65535 (x.lost + 1)
         counters :=
           match c with
           | .entry => { x.counters with lostEntry := x.counters.lostEntry + 1 }
           | .scan => { x.counters with lostScan := x.counters.lostScan + 1 }
           | .bulk => { x.counters with lostBulk := x.counters.lostBulk + 1 }
           | .critical => { x.counters with lostCritical := x.counters.lostCritical + 1 } }) ∧
   (∀ (x : LaneQueue) (e : Event) (redirected : Bool),
     x.admitEvent e redirected =
       { x with
         events := x.events ++ [{ event := e, sequence := x.nextSequence, lostBefore := x.lost }]
         nextSequence := x.nextSequence + 1
         lost := 0
         counters :=
           { x.counters with
             admitted := x.counters.admitted + 1
             redirectedIn := if redirected then x.counters.redirectedIn + 1 else x.counters.redirectedIn } }))

/-- An eviction takes the youngest event that is not CRITICAL out of the queue (R6) and hands its lost_before plus 1 to
the event that follows it, or to L_q where none follows, saturating at 65535 (R9); a queue of CRITICAL events only is
left as it is. The event admitted after an eviction takes what L_q then holds as its lost_before (R9, R8). -/
def Obligations.Eviction : Prop :=
  (∀ (x : LaneQueue) (older younger : List EventRecord) (y : EventRecord), x.events = older ++ y :: younger →
    y.event.cls ≠ .critical → (∀ r ∈ younger, r.event.cls = .critical) →
    x.evict =
      match younger with
      | [] =>
        { x with
          events := older
          lost := min 65535 (x.lost + (y.lostBefore + 1))
          counters := { x.counters with evicted := x.counters.evicted + 1 } }
      | f :: rest =>
        { x with
          events := older ++ { f with lostBefore := min 65535 (f.lostBefore + (y.lostBefore + 1)) } :: rest
          counters := { x.counters with evicted := x.counters.evicted + 1 } }) ∧
  (∀ x : LaneQueue, (∀ r ∈ x.events, r.event.cls = .critical) → x.evict = x) ∧
  (∀ (x : LaneQueue) (e : Event) (redirected : Bool),
    (x.evict.admitEvent e redirected).events =
      x.evict.events ++ [{ event := e, sequence := x.nextSequence, lostBefore := x.evict.lost }])

/-- An event refused changes the store only. An admission is handed on in three directions (R12): the lane's pending
wait, if the event's source is in its set, completes with the admitted sequence (R20, R19); the lane is marked READY
exactly when the occupancy rises from 0 to 1 or to the watermark (R13); and the SIGNAL action starts its pattern on the
source lane (R42). -/
def Obligations.AdmissionHandsOn : Prop :=
  (∀ (s : State) (d : LaneId) (e : Event) (signal : Option (SignalOut × Nat)) (st : EventStore),
    s.store.offer d e (d != e.lane) = (st, false) → s.offerEvent d e signal = { s with store := st }) ∧
  ∀ (s : State) (d : LaneId) (e : Event) (signal : Option (SignalOut × Nat)) (st : EventStore) (x : LaneQueue),
    s.store.offer d e (d != e.lane) = (st, true) → x = s.store.queues.get d →
    (x.wait = none →
      ((s.offerEvent d e signal).store = st ∧ (s.offerEvent d e signal).link.transmit = s.link.transmit)) ∧
    (∀ w, x.wait = some w → w.sources.getLsbD e.body.source.index = false →
      ((s.offerEvent d e signal).store = st ∧ (s.offerEvent d e signal).link.transmit = s.link.transmit)) ∧
    (∀ w, x.wait = some w → w.sources.getLsbD e.body.source.index = true →
      (s.offerEvent d e signal).store = st.setWait d none ∧
      (s.offerEvent d e signal).link.transmit =
        s.link.transmit ++
          [{ tag := w.tag, kind := 0x80,
             body :=
               [if w.clamped then 1 else 0, 0x16, laneByte d] ++ num4 w.timeout ++ num2 (st.occ d) ++
                 halfBytes x.nextSequence ++ [0],
             origin := .deferred }]) ∧
    (∃ l r o, s.offerEvent d e signal =
      { s with
        store := (s.offerEvent d e signal).store
        link := { s.link with transmit := l, readyPending := r }
        outputs := o }) ∧
    (∀ n : Nat, (s.offerEvent d e signal).link.readyPending.getLsbD n =
      (s.link.readyPending.getLsbD n ||
        (decide (n = d.val) &&
          (decide (s.store.occ d < st.occ d) && (decide (st.occ d = 1) || decide (st.occ d = x.watermark)))))) ∧
    (signal = none → (s.offerEvent d e signal).outputs = s.outputs) ∧
    (∀ o n, signal = some (o, n) →
      (s.offerEvent d e signal).outputs = (s.updateSignal e.lane o (SignalOutput.start s.time (s.pattern n))).outputs)

/-- The accounting of section 1.3.1, modulo 2^32, is kept by every step of a command that clears no counters: admitted
= fetched + flushed + evicted + occupancy for each lane. -/
def Obligations.QueueAccountingKept : Prop :=
  ∀ s t : State, s.Accounted → (∀ c rest, s.pending = c :: rest → ¬ s.clearsCounters c) → step s = .next t → t.Accounted

/-- SET_ADMISSION (R24, R25): every value is brought into its range; if the events held fit the new division, all take
effect and the reply carries the values taken, ADJUSTED if one was clamped; otherwise NO_RESOURCE with the four
occupancies, and nothing changes. -/
def Obligations.SetAdmission : Prop :=
  WrongLengthRefused .setAdmission 0x13 24 ∧
  (∀ a : AdmissionSettings,
    a.bytes =
      num1 (a.reserves.get 0) ++ num1 (a.reserves.get 1) ++ num1 (a.reserves.get 2) ++ num1 (a.reserves.get 3) ++
        num2 a.laneLimits.entry ++ num2 a.laneLimits.scan ++ num2 a.laneLimits.bulk ++ num2 a.sharedLimits.entry ++
        num2 a.sharedLimits.scan ++ num2 a.sharedLimits.bulk ++ num2 (a.watermarks.get 0) ++
        num2 (a.watermarks.get 1) ++ num2 (a.watermarks.get 2) ++ num2 (a.watermarks.get 3)) ∧
  (∀ (tag : Byte) (a g : AdmissionSettings) (s : State), tag ≠ 0 →
    (∀ q, a.reserves.get q < 256 ∧ a.watermarks.get q < 65536) →
    a.laneLimits.entry < 65536 ∧ a.laneLimits.scan < 65536 ∧ a.laneLimits.bulk < 65536 →
    a.sharedLimits.entry < 65536 ∧ a.sharedLimits.scan < 65536 ∧ a.sharedLimits.bulk < 65536 →
    g =
      { reserves := a.reserves.map (clamp 0 32)
        laneLimits := ⟨clamp 1 256 a.laneLimits.entry, clamp 1 256 a.laneLimits.scan, clamp 1 256 a.laneLimits.bulk⟩
        sharedLimits :=
          ⟨clamp 0 256 a.sharedLimits.entry, clamp 0 256 a.sharedLimits.scan, clamp 0 256 a.sharedLimits.bulk⟩
        watermarks := a.watermarks.map (clamp 1 256) } →
    ((laneSum fun q => s.store.occ q - g.reserves.get q) ≤ 256 - (laneSum fun q => g.reserves.get q) →
      exec (.setAdmission tag a.bytes) s =
        .next ({ s with
            store :=
              { queues :=
                  ⟨{ s.store.queues.lane0 with reserve := g.reserves.lane0, watermark := g.watermarks.lane0 },
                    { s.store.queues.lane1 with reserve := g.reserves.lane1, watermark := g.watermarks.lane1 },
                    { s.store.queues.lane2 with reserve := g.reserves.lane2, watermark := g.watermarks.lane2 },
                    { s.store.queues.lane3 with reserve := g.reserves.lane3, watermark := g.watermarks.lane3 }⟩
                laneLimits := g.laneLimits
                sharedLimits := g.sharedLimits } }.replied tag 0x13 (if g = a then .ok else .adjusted) g.bytes)) ∧
    (256 - (laneSum fun q => g.reserves.get q) < (laneSum fun q => s.store.occ q - g.reserves.get q) →
      exec (.setAdmission tag a.bytes) s =
        .next (s.replied tag 0x13 .noResource
          (num2 (s.store.occ 0) ++ num2 (s.store.occ 1) ++ num2 (s.store.occ 2) ++ num2 (s.store.occ 3)))))

/-- FETCH (R14, R15): the oldest records, at most the maximum taken, leave the queue, as many as fit one after another
in the 243 bytes of room; the reply carries the lane, the maximum taken, the number carried, the occupancy left and the
records. The monitors then take the change of the occupancy. That a FETCH of an empty queue with a maximum out of range
is answered ADJUSTED, and not OK, is the model's reading (log 25). The fields of more than one byte are sent high byte
first (R200), and an event record is laid out as R203 says, with the codes of R202: the record length, the lane, the
sequence, the time, the source, the kind, the class, the key-lock position, the flags byte, the tag and lost_before, 17
bytes in all, and then the payload of the source, where the embedded-value record follows the data of a symbol. -/
def Obligations.Fetch : Prop :=
  (WrongLengthRefused .fetch 0x14 2 ∧ BadLaneRefused .fetch 0x14 2 ∧
   (∀ (tag m : Byte) (q : LaneId) (x : LaneQueue) (s : State), tag ≠ 0 → x = s.store.queues.get q →
     ∃ k, k ≤ clamp 1 8 m.toNat ∧ k ≤ x.events.length ∧ ((x.events.take k).map EventRecord.size).sum ≤ 243 ∧
       (k = clamp 1 8 m.toNat ∨ k = x.events.length ∨ 243 < ((x.events.take (k + 1)).map EventRecord.size).sum) ∧
       exec (.fetch tag [laneByte q, m]) s =
         .next
           ((s.withQueue q
             { x with
               events := x.events.drop k
               counters := { x.counters with fetched := x.counters.fetched + BitVec.ofNat 32 k } }).settle.replied
             tag 0x14 (if clamp 1 8 m.toNat = m.toNat then .ok else .adjusted)
             ([laneByte q] ++ num1 (clamp 1 8 m.toNat) ++ num1 k ++ num2 (x.events.length - k) ++
               (x.events.take k).flatMap EventRecord.bytes)))) ∧
  ((∀ (n : Nat) (h : Half) (w : Time) (q : LaneId),
     laneByte q = BitVec.ofNat 8 q.val ∧ portByte .a = 0 ∧ portByte .b = 1 ∧ num1 n = [BitVec.ofNat 8 n] ∧
     halfBytes h = [BitVec.ofNat 8 (h.toNat / 256), BitVec.ofNat 8 h.toNat] ∧ num2 n = halfBytes (BitVec.ofNat 16 n) ∧
     wordBytes w =
       [BitVec.ofNat 8 (w.toNat / 16777216), BitVec.ofNat 8 (w.toNat / 65536), BitVec.ofNat 8 (w.toNat / 256),
         BitVec.ofNat 8 w.toNat] ∧
     num4 n = wordBytes (BitVec.ofNat 32 n)) ∧
   (∀ (r : EventRecord) (e : Event) (source kind : Byte) (payload : List Byte) (hasValue : Bool), e = r.event →
     (source, kind, payload, hasValue) =
       (match e.body with
        | .key k p c =>
          (0, match k with | .press => 0 | .release => 1 | .repeated => 2 | .forcedRelease => 3,
            [BitVec.ofNat 8 p.val, c], false)
        | .keylockPosition p =>
          (1, 0, [match p with | .lock => 0 | .sale => 1 | .supervisor => 2 | .service => 3 | .unknown => 4, 0], false)
        | .keylockFault p i =>
          (1, 1,
            [match p with | .lock => 0 | .sale => 1 | .supervisor => 2 | .service => 3 | .unknown => 4,
              BitVec.ofNat 8 i.toNat], false)
        | .symbol p c g d v =>
          (match p with | .a => 2 | .b => 3, 0,
            [portByte p, c, match g with | .steady => 0 | .burst => 1 | .flood => 2, BitVec.ofNat 8 d.length] ++ d ++
              (match v with
               | none => []
               | some x =>
                 [match x.status with | .valid => 0 | .checkFailed => 1 | .malformed => 2,
                     match x.kind with | .price => 0 | .weight => 1 | .count => 2, BitVec.ofNat 8 x.decimals] ++
                   num4 (x.value.getD 0) ++ [BitVec.ofNat 8 (x.item.getD []).length] ++ x.item.getD []), v.isSome)
        | .drawerOpened c =>
          (4, 0, [match c with | .commanded => 0 | .uncommanded => 1 | .beforeDrive => 2, 0, 0, 0, 0], false)
        | .drawerClosed t => (4, 1, 0 :: wordBytes t, false)
        | .drawerFailed => (4, 2, [0, 0, 0, 0, 0], false)
        | .drawerLeftOpen => (4, 3, [0, 0, 0, 0, 0], false)
        | .drawerAbandoned c =>
          (4, 4, [match c with | .queueTimeout => 0 | .lockout => 1 | .laneReset => 2, 0, 0, 0, 0], false)
        | .scannerLocked p => (5, 0, [portByte p, 0], false)
        | .scannerLost p c =>
          (5, 1,
            [portByte p,
              match c with | .misframes => 1 | .excess => 2 | .lineBreak => 3 | .resync => 4 | .disabled => 5], false)
        | .scannerExcess p => (5, 2, [portByte p, 0], false)
        | .pacingOn p => (5, 3, [portByte p, 0], false)
        | .pacingOff p => (5, 4, [portByte p, 0], false)
        | .interlockOn i => (5, 5, [BitVec.ofNat 8 i.val, 0], false)
        | .interlockOff i c =>
          (5, 6,
            [BitVec.ofNat 8 i.val, match c with | .disabled => 5 | .matchEnded => 6 | .released => 7 | .rewritten => 8],
            false)
        | .attendantOn => (5, 7, [0, 0], false)
        | .attendantOff c => (5, 8, [0, match c with | .leaveRequest => 9 | .laneReset => 10], false)) →
     r.size = 17 + payload.length ∧
     r.bytes =
       [BitVec.ofNat 8 (17 + payload.length), laneByte e.lane] ++ halfBytes r.sequence ++ wordBytes e.time ++
         [source, kind, match e.cls with | .critical => 0 | .entry => 1 | .scan => 2 | .bulk => 3,
           match e.keylock with | .lock => 0 | .sale => 1 | .supervisor => 2 | .service => 3 | .unknown => 4,
           match e.tag.isSome, hasValue with
           | false, false => 0
           | true, false => 1
           | false, true => 2
           | true, true => 3] ++
         halfBytes (e.tag.getD 0) ++ num2 r.lostBefore ++ payload))

/-- FLUSH (R16): every event of the queue is removed and counted flushed, and L_q becomes 0; the reply carries the
lane, the number removed and the L_q dropped, and for an empty queue both numbers 0. The sequence counter, the pending
wait and the READY mark stay. That an empty queue whose L_q is not 0 is one of these, with its L_q set to 0, is the
model's reading (log 24). -/
def Obligations.Flush : Prop :=
  WrongLengthRefused .flush 0x15 1 ∧ BadLaneRefused .flush 0x15 1 ∧
  (∀ (tag : Byte) (q : LaneId) (x : LaneQueue) (s : State), tag ≠ 0 → x = s.store.queues.get q →
    exec (.flush tag [laneByte q]) s =
      .next
        ((s.withQueue q
          { x with
            events := []
            lost := 0
            counters := { x.counters with flushed := x.counters.flushed + BitVec.ofNat 32 x.events.length } }).settle.replied
          tag 0x15 .ok ([laneByte q] ++ num2 x.events.length ++ num2 (if x.events = [] then 0 else x.lost))))

/-- AWAIT (R17 to R19) with a source set of existing members, not empty, on a lane: BUSY where a wait is pending;
answered at once with the sequence of the oldest event of a source in the set; and otherwise no reply, and a pending
wait with the tag, the set, the timeout taken and its expiry. A timeout above 600000 is taken as 600000, and the reply
is then ADJUSTED. That a refusal carries the timeout as it would be taken, the occupancy, sequence 0 and cause 0 is the
model's reading (log 10). The end of a wait: at its expiry it completes with TIMEOUT, and before it, or with no timeout
or no wait, nothing happens (R21); CANCEL_AWAIT completes it with CANCELLED and cause CANCEL_REQUEST before its own
reply, and with no wait answers OK with the flag "none pending" (R22). -/
def Obligations.Awaiting : Prop :=
  ((∀ (tag : Byte) (b : List Byte) (s : State), tag ≠ 0 → b.length ≠ 6 →
     exec (.await tag b) s = .next (s.replied tag 0x16 .badArgument (s.awaitRefusal b))) ∧
   (∀ (l : List Byte) (t : BitVec 32) (n : Nat) (s : State),
     (l.length < 5 ∧ n = 0) ∨ ((∃ m rest, l = m :: wordBytes t ++ rest) ∧ n = min 600000 t.toNat) →
     (∀ q : LaneId,
       s.awaitRefusal (laneByte q :: l) = [laneByte q] ++ num4 n ++ num2 (s.store.occ q) ++ [0, 0, 0]) ∧
     (∀ v : Byte, 3 < v.toNat → s.awaitRefusal (v :: l) = [v] ++ num4 n ++ [0, 0, 0, 0, 0])) ∧
   (∀ s : State, s.awaitRefusal [] = List.replicate 10 0) ∧
   (∀ (tag l m : Byte) (t : BitVec 32) (s : State), tag ≠ 0 → 3 < l.toNat →
     exec (.await tag (l :: m :: wordBytes t)) s =
       .next (s.replied tag 0x16 .badLane ([l] ++ num4 (min 600000 t.toNat) ++ [0, 0, 0, 0, 0]))) ∧
   (∀ (tag m : Byte) (t : BitVec 32) (q : LaneId) (s : State), tag ≠ 0 → m = 0 ∨ 63 < m.toNat →
     exec (.await tag (laneByte q :: m :: wordBytes t)) s =
       .next (s.replied tag 0x16 .badArgument
         ([laneByte q] ++ num4 (min 600000 t.toNat) ++ num2 (s.store.occ q) ++ [0, 0, 0]))) ∧
   ∀ (tag m : Byte) (t : BitVec 32) (q : LaneId) (x : LaneQueue) (n : Nat) (s : State), tag ≠ 0 →
     0 < m.toNat → m.toNat < 64 → x = s.store.queues.get q → n = min 600000 t.toNat →
     (x.wait.isSome = true →
       exec (.await tag (laneByte q :: m :: wordBytes t)) s =
         .next (s.replied tag 0x16 .busy ([laneByte q] ++ num4 n ++ num2 x.events.length ++ [0, 0, 0]))) ∧
     (∀ (older younger : List EventRecord) (r : EventRecord), x.wait = none → x.events = older ++ r :: younger →
       m.getLsbD r.event.body.source.index = true →
       (∀ o ∈ older, m.getLsbD o.event.body.source.index = false) →
       exec (.await tag (laneByte q :: m :: wordBytes t)) s =
         .next (s.replied tag 0x16 (if t.toNat ≤ 600000 then .ok else .adjusted)
           ([laneByte q] ++ num4 n ++ num2 x.events.length ++ halfBytes r.sequence ++ [0]))) ∧
     (x.wait = none → (∀ r ∈ x.events, m.getLsbD r.event.body.source.index = false) →
       exec (.await tag (laneByte q :: m :: wordBytes t)) s =
         .next (s.withQueue q
           { x with
             wait :=
               some
                 { tag := tag, sources := m.setWidth 6, timeout := n, clamped := decide (600000 < t.toNat),
                   expiry := if n = 0 then none else some (s.time + BitVec.ofNat 32 n) } }))) ∧
  ((∀ (q : LaneId) (x : LaneQueue) (w : Wait) (e : Time) (s : State), x = s.store.queues.get q → x.wait = some w →
     w.expiry = some e → reached s.time e = true →
     exec (.awaitExpiry q) s =
       .next ((s.withQueue q { x with wait := none }).push
         { tag := w.tag, kind := 0x80,
           body := [12, 0x16, laneByte q] ++ num4 w.timeout ++ num2 x.events.length ++ [0, 0, 0],
           origin := .deferred })) ∧
   (∀ (q : LaneId) (s : State),
     (∀ w e, (s.store.queues.get q).wait = some w → w.expiry = some e → reached s.time e = false) →
     exec (.awaitExpiry q) s = .next s) ∧
   WrongLengthRefused .cancelAwait 0x17 1 ∧ BadLaneRefused .cancelAwait 0x17 1 ∧
   (∀ (tag : Byte) (q : LaneId) (x : LaneQueue) (w : Wait) (s : State), tag ≠ 0 → x = s.store.queues.get q →
     x.wait = some w →
     exec (.cancelAwait tag [laneByte q]) s =
       .next (((s.withQueue q { x with wait := none }).push
         { tag := w.tag, kind := 0x80,
           body := [13, 0x16, laneByte q] ++ num4 w.timeout ++ num2 x.events.length ++ [0, 0, 0],
           origin := .deferred }).replied tag 0x17 .ok [laneByte q, 0])) ∧
   (∀ (tag : Byte) (q : LaneId) (s : State), tag ≠ 0 → (s.store.queues.get q).wait = none →
     exec (.cancelAwait tag [laneByte q]) s = .next (s.replied tag 0x17 .ok [laneByte q, 1])))

/-! ## The Classification Table (chapter 2) -/

/-- Matching (R32 to R35): a VALID rule matches when every enabled field matches, and an enabled field that does not
apply to the event's source does not match. The search (R37): each action takes its value from the lowest-indexed
matching VALID rule whose mode for it is not OFF, its value for SET and the default for DEFAULT; and the default where
no rule claims it. So each of the six actions of an event takes its value from the record that claims it, SET giving
the value of the record's own bytes and DEFAULT the default, and the default where none claims it (R36 to R43). An
event is matched with its lane, its lane's key-lock position and its lane's privilege (R31, R179). With every rule
UNUSED each event is classified with every action at its default (R29, R36): delivered to its own lane under the class
of its source, with no tag, no decode, no signal and no flow count. -/
def Obligations.RuleSearch : Prop :=
  (∀ (r : RuleRecord) (x : Subject),
     r.fits x = true ↔
       (r.enables.lanes = true → r.lanes.getLsbD x.lane.val = true) ∧
       (r.enables.sources = true → r.sources.getLsbD x.body.source.index = true) ∧
       (r.enables.keylock = true → r.keylock.getLsbD x.keylock.index = true) ∧
       (r.enables.privilege = true → (r.privilege ≠ 0 ↔ x.elevated = true)) ∧
       (r.enables.symbologies = true → ∃ p code g d v, x.body = .symbol p code g d v ∧
         r.symbologies.getLsbD code.toNat = true) ∧
       (r.enables.grades = true → ∃ p code g d v, x.body = .symbol p code g d v ∧ r.grades.getLsbD g.index = true) ∧
       (r.enables.length = true → ∃ p code g d v, x.body = .symbol p code g d v ∧
         r.lengthMin.toNat ≤ d.length ∧ d.length ≤ r.lengthMax.toNat) ∧
       (r.enables.prefixes = true → ∃ p code g d v, x.body = .symbol p code g d v ∧
         ∀ n : Nat, n < r.prefixLength.toNat → ∀ e, r.prefixEntries.toList[n]? = some e →
           ∃ c, d[n]? = some c ∧ (e = 0 ∨ e = c)) ∧
       (r.enables.keyCode = true → ∃ k p c, x.body = .key k p c ∧
         r.codeLow.toNat ≤ c.toNat ∧ c.toNat ≤ r.codeHigh.toNat) ∧
       (r.enables.transitions = true → ∃ k p c, x.body = .key k p c ∧ r.transitions.getLsbD k.index = true)) ∧
  ((∀ (t : ClassTable) (x : Subject) (mode : ActionModes → ActionMode) (value : RuleRecord → Nat) (n : Fin 64)
     (r : RuleRecord), t.rule n = some r → r.fits x = true → mode r.modes ≠ .off →
     (∀ (m : Fin 64) (r' : RuleRecord), m < n → t.rule m = some r' → r'.fits x = true → mode r'.modes = .off) →
     t.claim x mode value = if mode r.modes = .set then some (value r) else none) ∧
   (∀ (t : ClassTable) (x : Subject) (mode : ActionModes → ActionMode) (value : RuleRecord → Nat),
     (∀ (m : Fin 64) (r : RuleRecord), t.rule m = some r → r.fits x = true → mode r.modes = .off) →
     t.claim x mode value = none)) ∧
  (∀ (s : State) (q : LaneId) (b : EventBody) (x : Subject) (a : Actions) (c : EventClass), a = s.actionsFor q b →
     x.lane = q → x.body = b → x.keylock = (s.keyboards.get q).keylock.position →
     (x.elevated = true ↔ x.keylock = .supervisor ∨ x.keylock = .service ∨ (s.modes.get q).attendant = true) →
     c = (match b.source with | .key => .entry | .scanA => .scan | .scanB => .scan | _ => .critical) →
     ((s.table.unclaimed x ActionModes.dispose → a.dispose = .deliver) ∧
       ∀ r, s.table.claimedBy x ActionModes.dispose r →
         (r.modes.dispose = .default → a.dispose = .deliver) ∧
         (r.modes.dispose = .set →
           (r.disposeValue = 0 → a.dispose = .deliver) ∧
           (∀ d : LaneId, r.disposeValue = 1 → r.redirectLane = laneByte d → a.dispose = .redirect d) ∧
           (r.disposeValue = 2 → a.dispose = .discard))) ∧
     ((s.table.unclaimed x ActionModes.cls → a.cls = c) ∧
       ∀ r, s.table.claimedBy x ActionModes.cls r →
         (r.modes.cls = .default → a.cls = c) ∧
         (r.modes.cls = .set →
           ∀ k, (r.classValue, k) ∈ [((0 : Byte), EventClass.critical), (1, .entry), (2, .scan), (3, .bulk)] →
             a.cls = k)) ∧
     ((s.table.unclaimed x ActionModes.tag → a.tag = none) ∧
       ∀ r, s.table.claimedBy x ActionModes.tag r →
         (r.modes.tag = .default → a.tag = none) ∧ (r.modes.tag = .set → a.tag = some r.tagValue)) ∧
     ((s.table.unclaimed x ActionModes.decode → a.decode = none) ∧
       ∀ r, s.table.claimedBy x ActionModes.decode r →
         (r.modes.decode = .default → a.decode = none) ∧
         (r.modes.decode = .set → a.decode = some r.decodeProfile.toNat)) ∧
     ((s.table.unclaimed x ActionModes.signal → a.signal = none) ∧
       ∀ r, s.table.claimedBy x ActionModes.signal r →
         (r.modes.signal = .default → a.signal = none) ∧
         (r.modes.signal = .set →
           (r.signalOutput = 0 → a.signal = some (.lamp, r.signalPattern.toNat)) ∧
           (r.signalOutput = 1 → a.signal = some (.tone, r.signalPattern.toNat)))) ∧
     ((s.table.unclaimed x ActionModes.count → a.count = none) ∧
       ∀ r, s.table.claimedBy x ActionModes.count r →
         (r.modes.count = .default → a.count = none) ∧ (r.modes.count = .set → a.count = some r.countIndex.toNat))) ∧
  (∀ (s : State) (q : LaneId) (b : EventBody), (∀ n : Fin 64, s.table.rule n = none) →
     s.actionsFor q b =
       { dispose := .deliver
         cls :=
           match b.source with
           | .key => .entry
           | .scanA => .scan
           | .scanB => .scan
           | _ => .critical
         tag := none, decode := none, signal := none, count := none })

/-- The stages of a classification (R44, with R31, R38 to R43): the flow counter named advances whatever becomes of the
event; a discarded event advances the filtered counter of its source lane and does nothing else; any other is offered
to the queue of its own lane or of the lane it is redirected to, with the lane's key-lock position, the class, the tag
and the decode. The decode (R41): on a SYMBOL, a DECODE of a profile attaches the record that the profile makes of the
symbol's data, none with an empty profile (ProfilesAndValues); no other event, and no event without a DECODE, is
changed by it. -/
def Obligations.ClassificationStages : Prop :=
  (∀ (t : ClassTable) (p : PortId) (code : Byte) (g : Grade) (data : List Byte) (v : Option ValueRecord) (n : Fin 8),
    t.decoded (.symbol p code g data v) (some n.val) = .symbol p code g data ((t.profiles.get n).decode data)) ∧
  (∀ (t : ClassTable) (b : EventBody), t.decoded b none = b) ∧
  (∀ (t : ClassTable) (b : EventBody) (n : Option Nat), (∀ p code g data v, b ≠ .symbol p code g data v) →
    t.decoded b n = b) ∧
  (∀ (s u : State) (q : LaneId) (t : Time) (b : EventBody) (a : Actions), a = s.actionsFor q b →
    (a.count = none → u = s) →
    (∀ n : Fin 32, a.count = some n.val →
      u = { s with table := { s.table with flow := s.table.flow.set n.val (s.table.flow.get n + 1) n.isLt } }) →
    (∀ n, a.count = some n → n < 32) →
    (a.dispose = .discard →
      s.produce q t b =
        u.withQueue q
          { s.store.queues.get q with
            counters :=
              { (s.store.queues.get q).counters with filtered := (s.store.queues.get q).counters.filtered + 1 } }) ∧
    (∀ d : LaneId, (a.dispose = .redirect d ∨ (a.dispose = .deliver ∧ d = q)) →
      s.produce q t b =
        u.offerEvent d
          { lane := q, time := t, body := s.table.decoded b a.decode, cls := a.cls,
            keylock := (s.keyboards.get q).keylock.position, tag := a.tag }
          a.signal))

/-- WRITE_RULE (R45, R46): an index of 64 or more is refused with BAD_INDEX; then an enumeration value that does not
exist, in an enable, a mode, an enabled field or an action in mode SET, with BAD_ARGUMENT; then a REDIRECT to a lane
above 3 with BAD_LANE; then a profile, pattern or flow counter out of range with BAD_INDEX; then, after the clamping, a
range whose low end is above its high end with BAD_ARGUMENT. Any other record makes the rule VALID, with its enabled
ranges clamped; the reply carries the rule as stored, and READ_RULE then gives it back (R47). That the REDIRECT byte of
a DELIVER or DISCARD is stored as 0 is the model's reading (log 14). The bytes of a record stand in the order of R204.
-/
def Obligations.WriteRule : Prop :=
  WrongLengthRefused .writeRule 0x0F 47 ∧
  (∀ r : RuleRecord,
    r.bytes =
      [flagByte r.enables.lanes, flagByte r.enables.sources, flagByte r.enables.keylock, flagByte r.enables.privilege,
        flagByte r.enables.symbologies, flagByte r.enables.prefixes, flagByte r.enables.length,
        flagByte r.enables.grades, flagByte r.enables.keyCode, flagByte r.enables.transitions, r.lanes, r.sources,
        r.keylock, r.privilege] ++ halfBytes r.symbologies ++ [r.prefixLength] ++ r.prefixEntries.toList ++
        [r.lengthMin, r.lengthMax, r.grades, r.codeLow, r.codeHigh, r.transitions, r.modes.dispose.code,
          r.modes.cls.code, r.modes.tag.code, r.modes.decode.code, r.modes.signal.code, r.modes.count.code,
          r.disposeValue, r.redirectLane, r.classValue] ++ halfBytes r.tagValue ++
        [r.decodeProfile, r.signalOutput, r.signalPattern, r.countIndex]) ∧
  (∀ (tag n : Byte) (b : List Byte) (s : State), tag ≠ 0 → b.length = 46 → 63 < n.toNat →
    exec (.writeRule tag (n :: b)) s = .next (s.replied tag 0x0F .badIndex [])) ∧
  (∀ (tag : Byte) (n : Fin 64) (b : List Byte) (i : Nat) (s : State), tag ≠ 0 → b.length = 46 →
    (i < 10 ∧ 1 < (b.getD i 0).toNat) ∨ (31 ≤ i ∧ i < 37 ∧ 2 < (b.getD i 0).toNat) →
    exec (.writeRule tag (BitVec.ofNat 8 n.val :: b)) s = .next (s.replied tag 0x0F .badArgument [])) ∧
  (∀ (tag : Byte) (n : Fin 64) (r : RuleRecord) (illegal redirect index order : Prop) (lo hi lo' hi' : Nat) (s : State),
    tag ≠ 0 →
    (illegal ↔
      (r.enables.lanes = true ∧ 15 < r.lanes.toNat) ∨ (r.enables.sources = true ∧ 63 < r.sources.toNat) ∨
      (r.enables.keylock = true ∧ 31 < r.keylock.toNat) ∨ (r.enables.privilege = true ∧ 1 < r.privilege.toNat) ∨
      (r.enables.prefixes = true ∧ ∃ e ∈ r.prefixEntries.toList, e ≠ 0 ∧ (e.toNat < 0x20 ∨ 0x7E < e.toNat)) ∨
      (r.enables.grades = true ∧ 7 < r.grades.toNat) ∨ (r.enables.transitions = true ∧ 15 < r.transitions.toNat) ∨
      (r.modes.dispose = .set ∧ 2 < r.disposeValue.toNat) ∨ (r.modes.cls = .set ∧ 3 < r.classValue.toNat) ∨
      (r.modes.signal = .set ∧ 1 < r.signalOutput.toNat)) →
    (redirect ↔ r.modes.dispose = .set ∧ r.disposeValue = 1 ∧ 3 < r.redirectLane.toNat) →
    (index ↔
      (r.modes.decode = .set ∧ 7 < r.decodeProfile.toNat) ∨ (r.modes.signal = .set ∧ 7 < r.signalPattern.toNat) ∨
      (r.modes.count = .set ∧ 31 < r.countIndex.toNat)) →
    lo = clamp 1 48 r.lengthMin.toNat → hi = clamp 1 48 r.lengthMax.toNat → lo' = max 1 r.codeLow.toNat →
    hi' = max 1 r.codeHigh.toNat →
    (order ↔ (r.enables.length = true ∧ hi < lo) ∨ (r.enables.keyCode = true ∧ hi' < lo')) →
    (illegal →
      exec (.writeRule tag (BitVec.ofNat 8 n.val :: r.bytes)) s = .next (s.replied tag 0x0F .badArgument [])) ∧
    (¬illegal → redirect →
      exec (.writeRule tag (BitVec.ofNat 8 n.val :: r.bytes)) s = .next (s.replied tag 0x0F .badLane [])) ∧
    (¬illegal → ¬redirect → index →
      exec (.writeRule tag (BitVec.ofNat 8 n.val :: r.bytes)) s = .next (s.replied tag 0x0F .badIndex [])) ∧
    (¬illegal → ¬redirect → ¬index → order →
      exec (.writeRule tag (BitVec.ofNat 8 n.val :: r.bytes)) s = .next (s.replied tag 0x0F .badArgument [])) ∧
    (¬illegal → ¬redirect → ¬index → ¬order → ∀ (taken stored : RuleRecord) (t : State),
      taken =
        { r with
          prefixLength :=
            if r.enables.prefixes then BitVec.ofNat 8 (clamp 1 8 r.prefixLength.toNat) else r.prefixLength
          lengthMin := if r.enables.length then BitVec.ofNat 8 lo else r.lengthMin
          lengthMax := if r.enables.length then BitVec.ofNat 8 hi else r.lengthMax
          codeLow := if r.enables.keyCode then BitVec.ofNat 8 lo' else r.codeLow
          codeHigh := if r.enables.keyCode then BitVec.ofNat 8 hi' else r.codeHigh } →
      stored =
        { taken with
          redirectLane := if r.modes.dispose = .set ∧ r.disposeValue ≠ 1 then 0 else r.redirectLane } →
      t =
        { s with table := { s.table with rules := s.table.rules.set n.val (some stored) n.isLt } }.replied tag 0x0F
          (if taken = r then .ok else .adjusted) (BitVec.ofNat 8 n.val :: stored.bytes) →
      exec (.writeRule tag (BitVec.ofNat 8 n.val :: r.bytes)) s = .next t ∧
      ∀ tag' : Byte, tag' ≠ 0 →
        exec (.readRule tag' [BitVec.ofNat 8 n.val]) t =
          .next (t.replied tag' 0x10 .ok ([BitVec.ofNat 8 n.val, 1] ++ stored.bytes))))

/-- READ_RULE reports a VALID rule's record, and for an UNUSED rule a record of zeros (R47); CLEAR_RULE makes the rule
UNUSED and reports the state it had (R48). An index of 64 or more is refused with BAD_INDEX. -/
def Obligations.ReadAndClearRule : Prop :=
  WrongLengthRefused .readRule 0x10 1 ∧ WrongLengthRefused .clearRule 0x11 1 ∧
  (∀ (tag n : Byte) (s : State), tag ≠ 0 → 63 < n.toNat →
    exec (.readRule tag [n]) s = .next (s.replied tag 0x10 .badIndex []) ∧
    exec (.clearRule tag [n]) s = .next (s.replied tag 0x11 .badIndex [])) ∧
  (∀ (tag : Byte) (n : Fin 64) (r : RuleRecord) (s : State), tag ≠ 0 → s.table.rules.get n = some r →
    exec (.readRule tag [BitVec.ofNat 8 n.val]) s =
      .next (s.replied tag 0x10 .ok ([BitVec.ofNat 8 n.val, 1] ++ r.bytes)) ∧
    exec (.clearRule tag [BitVec.ofNat 8 n.val]) s =
      .next ({ s with table := { s.table with rules := s.table.rules.set n.val none n.isLt } }.replied
        tag 0x11 .ok [BitVec.ofNat 8 n.val, 1])) ∧
  (∀ (tag : Byte) (n : Fin 64) (s : State), tag ≠ 0 → s.table.rules.get n = none →
    exec (.readRule tag [BitVec.ofNat 8 n.val]) s =
      .next (s.replied tag 0x10 .ok ([BitVec.ofNat 8 n.val, 0] ++ List.replicate 46 0)) ∧
    exec (.clearRule tag [BitVec.ofNat 8 n.val]) s = .next (s.replied tag 0x11 .ok [BitVec.ofNat 8 n.val, 0]))

/-- SET_PROFILE (R51): the tests in order, each setting clamped, the profile replaced whole, and the reply with the
settings taken. A decode (R118 to R121) of data by a profile in use: MALFORMED when a field it reads ends beyond the
data or holds a character that is not a digit; otherwise VALID with the value read as a decimal, or CHECK_FAILED when
the weighted sum of the value field, modulo 10, differs from the digit at the check position. -/
def Obligations.ProfilesAndValues : Prop :=
  (WrongLengthRefused .setProfile 0x12 8 ∧
   (∀ (tag n : Byte) (b : List Byte) (s : State), tag ≠ 0 → b.length = 7 → 7 < n.toNat →
     exec (.setProfile tag (n :: b)) s = .next (s.replied tag 0x12 .badIndex [])) ∧
   (∀ (tag vs vl k d c is il : Byte) (n : Fin 8) (s : State), tag ≠ 0 → 2 < k.toNat →
     exec (.setProfile tag [BitVec.ofNat 8 n.val, vs, vl, k, d, c, is, il]) s =
       .next (s.replied tag 0x12 .badArgument [])) ∧
   (∀ (tag vs vl d c is il : Byte) (k : ValueKind) (n : Fin 8) (p : Profile) (s : State), tag ≠ 0 →
     p =
       { valueStart := clamp 1 40 vs.toNat, valueLength := min 6 vl.toNat, kind := k, decimals := min 3 d.toNat,
         checkPosition := min 48 c.toNat, itemStart := clamp 1 48 is.toNat, itemLength := min 12 il.toNat } →
     exec (.setProfile tag [BitVec.ofNat 8 n.val, vs, vl, k.code, d, c, is, il]) s =
       .next ({ s with table := { s.table with profiles := s.table.profiles.set n.val p n.isLt } }.replied tag 0x12
         (if p.bytes = [vs, vl, k.code, d, c, is, il] then .ok else .adjusted) (BitVec.ofNat 8 n.val :: p.bytes))) ∧
   (∀ p : Profile,
     p.bytes =
       [BitVec.ofNat 8 p.valueStart, BitVec.ofNat 8 p.valueLength,
         match p.kind with | .price => 0 | .weight => 1 | .count => 2, BitVec.ofNat 8 p.decimals,
         BitVec.ofNat 8 p.checkPosition, BitVec.ofNat 8 p.itemStart, BitVec.ofNat 8 p.itemLength])) ∧
  ((∀ (p : Profile) (data : List Byte), p.valueLength = 0 → p.decode data = none) ∧
   (∀ (p : Profile) (data : List Byte), p.valueLength ≠ 0 →
     (data.length < p.valueStart - 1 + p.valueLength ∨
       (∃ b ∈ (data.drop (p.valueStart - 1)).take p.valueLength, isDigit b = false) ∨
       (p.checkPosition ≠ 0 ∧ (data.length < p.checkPosition ∨ isDigit (data.getD (p.checkPosition - 1) 0) = false)) ∨
       (p.itemLength ≠ 0 ∧ (data.length < p.itemStart - 1 + p.itemLength ∨
         ∃ b ∈ (data.drop (p.itemStart - 1)).take p.itemLength, isDigit b = false))) →
     p.decode data =
       some { status := .malformed, kind := p.kind, decimals := p.decimals, value := none, item := none }) ∧
   (∀ (p : Profile) (data v : List Byte), p.valueLength ≠ 0 → v = (data.drop (p.valueStart - 1)).take p.valueLength →
     p.valueStart - 1 + p.valueLength ≤ data.length → (∀ b ∈ v, isDigit b = true) →
     (p.checkPosition ≠ 0 → p.checkPosition ≤ data.length ∧ isDigit (data.getD (p.checkPosition - 1) 0) = true) →
     (p.itemLength ≠ 0 → p.itemStart - 1 + p.itemLength ≤ data.length ∧
       ∀ b ∈ (data.drop (p.itemStart - 1)).take p.itemLength, isDigit b = true) →
     p.decode data =
       some
         (if p.checkPosition = 0 ∨ fieldCheckSum v % 10 = digitValue (data.getD (p.checkPosition - 1) 0) then
            { status := .valid, kind := p.kind, decimals := p.decimals, value := some (decimal v),
              item :=
                if p.itemLength = 0 then none else some ((data.drop (p.itemStart - 1)).take p.itemLength) }
          else
            { status := .checkFailed, kind := p.kind, decimals := p.decimals, value := none,
              item :=
                if p.itemLength = 0 then none else some ((data.drop (p.itemStart - 1)).take p.itemLength) })) ∧
   (∀ v : List Byte, v.length ≤ 6 →
     fieldCheckSum v = ((v.zip [3, 7, 9, 3, 7, 9]).map fun x => digitValue x.1 * x.2).sum) ∧
   (∀ b : Byte, (isDigit b = true ↔ 0x30 ≤ b.toNat ∧ b.toNat ≤ 0x39) ∧ digitValue b = b.toNat - 0x30) ∧
   (decimal [] = 0 ∧ ∀ (v : List Byte) (b : Byte), decimal (v ++ [b]) = decimal v * 10 + (b.toNat - 0x30)))

/-! ## The Key Matrix Unit (chapter 3) -/

/-- A sample of the matrix (R53 to R56). With the KEYBOARD enable off, or before a first sample, it is not taken.
Otherwise raw values are recorded, a position outside the geometry as up, and raw-change times move where the raw value
differs; a sample at which no change has stood for the debounce time, the count times 1 or 10 ms, does no more. A
sample at which exactly one change is accepted, with no key waiting or blocked (R55, R56): the debounced value takes
the raw value, and the press or the release is handled as KeyTransitions says. A sample at which any changes are
accepted (R55, R56, R60): their debounced values turn over, and the stages follow: the releases in ascending order of
position, the promotion of waiting keys, the re-test of blocked keys, and the presses in ascending order of position.
What the stages hand on goes on in that order. That the typematic test which follows them is a command of its own is
the model's choice (log 16), and so is that the monitors take what the events of the sample bring about before that
test (log 30). The first sample after an enable or a restart (R69): every position takes its raw value without
debounce, keys found down with a code join the absorbed set, and no event is produced. At any other moment this command
does nothing. -/
def Obligations.MatrixSamples : Prop :=
  ((∀ (q : LaneId) (raw : BitVec 128) (s : State),
     (s.modes.get q).current.keyboard = false ∨ (s.keyboards.get q).firstSample = true →
     exec (.keyChangeAccepted q raw) s = .next s) ∧
   (∀ (k : Keyboard) (now : Time) (raw : BitVec 128), ∃ r v,
     k.recordRaw now raw = { k with previousRaw := r, rawChange := v } ∧
     ∀ p : KeyPos,
       r.getLsbD p.val =
         (raw.getLsbD p.val && decide (p.val / 16 < k.settings.rows) && decide (p.val % 16 < k.settings.columns)) ∧
       v.get p = if r.getLsbD p.val = k.previousRaw.getLsbD p.val then k.rawChange.get p else now) ∧
   (∀ g : KeyboardSettings, g.debounceTime = g.debounceCount * (if g.grain10 then 10 else 1)) ∧
   (∀ (q : LaneId) (raw : BitVec 128) (k : Keyboard) (s : State), (s.modes.get q).current.keyboard = true →
     (s.keyboards.get q).firstSample = false → k = (s.keyboards.get q).recordRaw s.time raw →
     (∀ p : KeyPos, k.previousRaw.getLsbD p.val = k.debounced.getLsbD p.val ∨
       elapsed s.time (k.rawChange.get p) < k.settings.debounceTime) →
     exec (.keyChangeAccepted q raw) s = .next (s.withKeyboard q k).settle)) ∧
  (∀ (q : LaneId) (raw : BitVec 128) (k : Keyboard) (p : KeyPos) (r : Keyboard × List LaneEffect) (s : State),
     (s.modes.get q).current.keyboard = true → (s.keyboards.get q).firstSample = false →
     k = (s.keyboards.get q).recordRaw s.time raw → k.waiting = [] → k.blocked = [] →
     (∀ o : KeyPos, o = p ↔ k.previousRaw.getLsbD o.val ≠ k.debounced.getLsbD o.val ∧
       k.settings.debounceTime ≤ elapsed s.time (k.rawChange.get o)) →
     r =
       (if k.debounced.getLsbD p.val = true then
          Keyboard.releaseKey s.time p { k with debounced := k.debounced ^^^ BitVec.twoPow 128 p.val }
        else
          Keyboard.pressKey s.time (s.interlocks.conditions.get q).muted p
            { k with debounced := k.debounced ^^^ BitVec.twoPow 128 p.val }) →
     exec (.keyChangeAccepted q raw) s = .next ((s.withKeyboard q r.1).perform q r.2).settle) ∧
  (∀ (q : LaneId) (raw d : BitVec 128) (k : Keyboard) (accepted : List KeyPos) (r2 r3 r4 r5 : Keyboard × List LaneEffect)
     (s : State), (s.modes.get q).current.keyboard = true → (s.keyboards.get q).firstSample = false →
     k = (s.keyboards.get q).recordRaw s.time raw →
     (∀ p : KeyPos, p ∈ accepted ↔ k.previousRaw.getLsbD p.val ≠ k.debounced.getLsbD p.val ∧
       k.settings.debounceTime ≤ elapsed s.time (k.rawChange.get p)) →
     accepted.Pairwise (fun a b => a.val < b.val) → accepted ≠ [] →
     (∀ p : KeyPos,
       d.getLsbD p.val = if p ∈ accepted then k.previousRaw.getLsbD p.val else k.debounced.getLsbD p.val) →
     r2 =
       runAll (Keyboard.releaseKey s.time) (accepted.filter fun p => k.debounced.getLsbD p.val)
         { k with debounced := d } →
     r3 = r2.1.promote s.time r2.1.waiting.length → r4 = r3.1.retest s.time →
     r5 =
       runAll (Keyboard.pressKey s.time (s.interlocks.conditions.get q).muted)
         (accepted.filter fun p => !k.debounced.getLsbD p.val) r4.1 →
     exec (.keyChangeAccepted q raw) s =
       .next ((s.withKeyboard q r5.1).perform q (r2.2 ++ r3.2 ++ r4.2 ++ r5.2)).settle) ∧
  ((∀ (q : LaneId) (raw : BitVec 128) (k : Keyboard) (s : State), k = s.keyboards.get q →
     (s.modes.get q).current.keyboard = true → k.firstSample = true →
     ∃ d a,
       exec (.firstSampleAbsorb q raw) s =
         .next (s.withKeyboard q
           { k with
             debounced := d
             previousRaw := d
             rawChange := Vector.replicate 128 s.time
             absorbed := a
             firstSample := false }) ∧
       ∀ p : KeyPos,
         d.getLsbD p.val =
           (raw.getLsbD p.val && decide (p.val / 16 < k.settings.rows) && decide (p.val % 16 < k.settings.columns)) ∧
         a.getLsbD p.val = (d.getLsbD p.val && decide ((k.keyTable.get p).code ≠ 0))) ∧
   (∀ (q : LaneId) (raw : BitVec 128) (s : State),
     (s.modes.get q).current.keyboard = false ∨ (s.keyboards.get q).firstSample = false →
     exec (.firstSampleAbsorb q raw) s = .next s))

/-- An accepted press takes the first of five cases (R59): ignored, absorbed by a mute, ghost-blocked, reported, or
waiting; a report captures the entry, joins the reported-down set, produces PRESS, hands the key to typematic and, for
REPEAT_RELEASE, empties the recent-symbol list (R61, R65). An accepted release (R60): a reported key leaves the set
with a RELEASE of the captured code, and repetition of that key stops; any other key leaves the list or set it is in
without an event. What a block of a lane hands on is done in order: an event it produces goes to the Classification
Table as State.produce says, and the emptying that a report with REPEAT_RELEASE asks for leaves the recent-symbol list
of the lane's Symbol Checker empty (R61, R116). -/
def Obligations.KeyTransitions : Prop :=
  (∀ (t : Time) (muted : Bool) (p : KeyPos) (k : Keyboard) (e : KeyEntry), e = k.keyTable.get p →
     (e.code = 0 → k.pressKey t muted p = (k, [])) ∧
     (e.code ≠ 0 → muted = true →
       k.pressKey t muted p =
         ({ k with
             absorbed := k.absorbed ||| BitVec.twoPow 128 p.val
             counters := { k.counters with muted := k.counters.muted + 1 } }, [])) ∧
     (e.code ≠ 0 → muted = false → k.suspect p = true →
       k.pressKey t muted p =
         ({ k with
             blocked := k.blocked ++ [{ position := p, pressTime := t }]
             counters := { k.counters with ghostBlocks := k.counters.ghostBlocks + 1 } }, [])) ∧
     (e.code ≠ 0 → muted = false → k.suspect p = false → k.reported.length < k.settings.rolloverLimit →
       k.pressKey t muted p =
         ({ k with
             reported := insertReported { position := p, entry := e, reportTime := t } k.reported
             typematic :=
               if e.repeatable then some { position := p, nextRepeat := t + BitVec.ofNat 32 k.settings.typematicDelay }
               else none
             counters := { k.counters with presses := k.counters.presses + 1 } },
           .produce t (.key .press p e.code) :: (if e.repeatRelease then [.emptyRecent] else []))) ∧
     (e.code ≠ 0 → muted = false → k.suspect p = false → k.settings.rolloverLimit ≤ k.reported.length →
       k.pressKey t muted p =
         ({ k with
             waiting := k.waiting ++ [p]
             counters := { k.counters with rolloverHolds := k.counters.rolloverHolds + 1 } }, []))) ∧
  (∀ (t : Time) (p : KeyPos) (k : Keyboard),
     (∀ (before after : List ReportedKey) (r : ReportedKey), k.reported = before ++ r :: after → r.position = p →
       (∀ x ∈ before, x.position ≠ p) → (∀ x ∈ after, x.position ≠ p) →
       k.releaseKey t p =
         ({ k with
             reported := before ++ after
             typematic :=
               match k.typematic with
               | some m => if m.position = p then none else some m
               | none => none },
           [.produce t (.key .release p r.entry.code)])) ∧
     ((∀ x ∈ k.reported, x.position ≠ p) →
       ∃ a, k.releaseKey t p =
         ({ k with
             waiting := k.waiting.filter fun x => x != p
             blocked := k.blocked.filter fun x => x.position != p
             absorbed := a }, []) ∧
       ∀ o : KeyPos, a.getLsbD o.val = (k.absorbed.getLsbD o.val && decide (o ≠ p)))) ∧
  ((∀ (q : LaneId) (s : State), s.perform q [] = s) ∧
   (∀ (q : LaneId) (l m : List LaneEffect) (s : State), s.perform q (l ++ m) = (s.perform q l).perform q m) ∧
   (∀ (q : LaneId) (t : Time) (e : EventBody) (s : State), s.perform q [.produce t e] = s.produce q t e) ∧
   (∀ (q : LaneId) (s : State),
     s.perform q [.emptyRecent] = s.withChecker q { s.checkers.get q with recent := [] }) ∧
   (∀ (q o : LaneId) (c : Checker) (s : State), (s.withChecker q c).checkers.get o = if o = q then c else s.checkers.get o))

/-- A press is ghost-suspect when three other corners of a rectangle with it are debounced down (R63). Promotion (R62)
and re-test (R64). Waiting keys are reported oldest first until the set is full or the list is empty, and never beyond
the rollover limit. At a re-test the blocked keys no longer suspect leave the set and go through rollover, in the order
of their press times and then of position, each to be reported if there is room and to wait otherwise; the others stay.
A sample keeps the blocked keys in that order. A list of keys is handled one after another, and what each hands on
follows in order. A report captures the entry, joins the reported-down set, produces PRESS, hands the key to typematic
and, for REPEAT_RELEASE, empties the recent-symbol list (R61). -/
def Obligations.GhostsAndPromotion : Prop :=
  (∀ (k : Keyboard) (row : Fin 8) (column : Fin 16) (p : KeyPos), p.val = row.val * 16 + column.val →
     (k.suspect p = true ↔
       ∃ (row' : Fin 8) (column' : Fin 16), row' ≠ row ∧ column' ≠ column ∧
         k.debounced.getLsbD (row.val * 16 + column'.val) = true ∧
         k.debounced.getLsbD (row'.val * 16 + column.val) = true ∧
         k.debounced.getLsbD (row'.val * 16 + column'.val) = true)) ∧
  ((∀ (t : Time) (k : Keyboard), ∃ n, n ≤ k.waiting.length ∧
     (k.promote t k.waiting.length).1.waiting = k.waiting.drop n ∧
     (k.promote t k.waiting.length).1.reported.length = k.reported.length + n ∧
     (k.promote t k.waiting.length).1.counters.presses = k.counters.presses + BitVec.ofNat 32 n ∧
     ((k.promote t k.waiting.length).2.filter fun x => x != .emptyRecent) =
       ((k.waiting.take n).map fun p => .produce t (.key .press p (k.keyTable.get p).code)) ∧
     (n = k.waiting.length ∨
       k.settings.rolloverLimit ≤ (k.promote t k.waiting.length).1.reported.length)) ∧
   (∀ (t : Time) (k : Keyboard), (∀ b ∈ k.blocked, k.suspect b.position = true) → k.retest t = (k, [])) ∧
   (∀ (t : Time) (k : Keyboard) (before after : List BlockedKey) (b : BlockedKey), k.blocked = before ++ b :: after →
     k.suspect b.position = false → (∀ x ∈ before, k.suspect x.position = true) →
     (∀ x ∈ after, k.suspect x.position = true) →
     k.retest t =
       (if k.reported.length < k.settings.rolloverLimit then
          Keyboard.report t b.position { k with blocked := before ++ after }
        else
          ({ k with
              blocked := before ++ after
              waiting := k.waiting ++ [b.position]
              counters := { k.counters with rolloverHolds := k.counters.rolloverHolds + 1 } }, []))) ∧
   (∀ (t : Time) (k : Keyboard) (n : Nat),
     n = min k.waiting.length (k.settings.rolloverLimit - k.reported.length) →
     k.promote t k.waiting.length =
       runAll (Keyboard.report t) (k.waiting.take n) { k with waiting := k.waiting.drop n }) ∧
   (∀ (t : Time) (k : Keyboard), k.reported.length ≤ k.settings.rolloverLimit →
     (k.promote t k.waiting.length).1.reported.length ≤ k.settings.rolloverLimit) ∧
   (∀ (t : Time) (k : Keyboard) (l : List BlockedKey), l.Perm (k.blocked.filter fun b => !k.suspect b.position) →
     InPressOrder t k.blocked → InPressOrder t l →
     k.retest t =
       runAll
         (fun (b : BlockedKey) (x : Keyboard) =>
           if x.reported.length < x.settings.rolloverLimit then x.report t b.position
           else
             ({ x with
                 waiting := x.waiting ++ [b.position]
                 counters := { x.counters with rolloverHolds := x.counters.rolloverHolds + 1 } }, []))
         l { k with blocked := k.blocked.filter fun b => k.suspect b.position }) ∧
   (∀ (q : LaneId) (raw : BitVec 128) (s t : State), exec (.keyChangeAccepted q raw) s = .next t →
     InPressOrder s.time (s.keyboards.get q).blocked → (∀ b ∈ (s.keyboards.get q).blocked, b.pressTime ≠ s.time) →
     InPressOrder s.time (t.keyboards.get q).blocked)) ∧
  ((∀ (α : Type) (f : α → Keyboard → Keyboard × List LaneEffect) (a : α) (l : List α) (k : Keyboard),
     runAll f [] k = (k, []) ∧
     runAll f (a :: l) k = ((runAll f l (f a k).1).1, (f a k).2 ++ (runAll f l (f a k).1).2)) ∧
   (∀ (t : Time) (p : KeyPos) (k : Keyboard) (e : KeyEntry), e = k.keyTable.get p →
     k.report t p =
       ({ k with
           reported := insertReported { position := p, entry := e, reportTime := t } k.reported
           typematic :=
             if e.repeatable then some { position := p, nextRepeat := t + BitVec.ofNat 32 k.settings.typematicDelay }
             else none
           counters := { k.counters with presses := k.counters.presses + 1 } },
         .produce t (.key .press p e.code) :: (if e.repeatRelease then [.emptyRecent] else []))) ∧
   (∀ (r : ReportedKey) (l : List ReportedKey), (insertReported r l).Perm (r :: l)))

/-- The typematic test (R65): at or after the next-repeat time a REPEAT of the captured code is produced, and the
next-repeat time becomes the sample's time plus the interval; with no typematic key, or before that time, nothing is
produced. That the test is a command of its own, sent after the sample's, is the model's choice (log 16), and so is
that a mute which the events of the sample start comes before it (log 30). The start of a mute (R66) while the KEYBOARD
enable is on: a FORCED_RELEASE for every reported key, in ascending position order, then the set, the list and the
ghost-blocked set are empty, there is no typematic key, and every key debounced down with a code is absorbed. While the
enable is off nothing happens; and the end of a mute does nothing (R67). -/
def Obligations.RepeatsAndMutes : Prop :=
  ((∀ (q : LaneId) (k : Keyboard) (m : Typematic) (r : ReportedKey) (s : State), k = s.keyboards.get q →
     k.typematic = some m → reached s.time m.nextRepeat = true →
     k.reported.find? (fun x => x.position == m.position) = some r →
     exec (.typematicRepeat q) s =
       .next (((s.withKeyboard q
         { k with
           typematic :=
             some { position := m.position, nextRepeat := s.time + BitVec.ofNat 32 k.settings.typematicInterval } }).produce
           q s.time (.key .repeated m.position r.entry.code)).settle)) ∧
   (∀ (q : LaneId) (s : State),
     (∀ m, (s.keyboards.get q).typematic = some m → reached s.time m.nextRepeat = false) →
     exec (.typematicRepeat q) s = .next s.settle)) ∧
  ((∀ (q : LaneId) (k : Keyboard) (s : State), k = s.keyboards.get q → (s.modes.get q).current.keyboard = true →
     ∃ a,
       s.handEffect ((q, .mute), true) =
         (s.withKeyboard q
           { k with reported := [], waiting := [], blocked := [], typematic := none, absorbed := a }).perform q
           (k.reported.map fun r => .produce s.time (.key .forcedRelease r.position r.entry.code)) ∧
       ∀ p : KeyPos, a.getLsbD p.val =
         (k.absorbed.getLsbD p.val || (k.debounced.getLsbD p.val && decide ((k.keyTable.get p).code ≠ 0)))) ∧
   (∀ (q : LaneId) (s : State), (s.modes.get q).current.keyboard = false → s.handEffect ((q, .mute), true) = s) ∧
   (∀ (q : LaneId) (s : State), s.handEffect ((q, .mute), false) = s))

/-- A sample of the key-lock inputs (R71 to R73). The pattern is recorded; once it differs from the debounced pattern
and has stood for the debounce time it is accepted. A valid pattern stops the fault timer, and with a new position
produces POSITION; an invalid one keeps the position and starts the fault timer if it does not run, but for a lock at
UNKNOWN whose debounced pattern was invalid before: its timer runs on, or stays stopped after its FAULT, so that no
second FAULT follows while the pattern stays invalid. That the timer stays stopped, where R73 says only that no event
is produced, is the model's reading (log 28). The fault timer (R73): once it has run for the fault time it stops, the
position becomes UNKNOWN, and a FAULT with the position held before and the debounced pattern is produced; before that,
or stopped, nothing happens. That the test comes as a command of its own after the sample's is the model's choice (log
16). -/
def Obligations.KeylockSampled : Prop :=
  (∀ (q : LaneId) (i : BitVec 4) (k : Keyboard) (l : Keylock) (c : Time) (s : State), k = s.keyboards.get q →
     l = k.keylock →
     c = (if l.previousRaw = none ∨ l.previousRaw = some i then l.rawChange else s.time) →
     (l.debounced = some i ∨ elapsed s.time c < k.settings.keylockCount * 10 →
       exec (.keylockPatternAccepted q i) s =
         .next (s.withKeyboard q { k with keylock := { l with previousRaw := some i, rawChange := c } }).settle) ∧
     (l.debounced ≠ some i → k.settings.keylockCount * 10 ≤ elapsed s.time c →
       (∀ pos, (i, pos) ∈ [((1 : BitVec 4), KeylockPos.lock), (2, .sale), (4, .supervisor), (8, .service)] →
         (l.position ≠ pos →
           exec (.keylockPatternAccepted q i) s =
             .next ((s.withKeyboard q
               { k with
                 keylock :=
                   { position := pos, previousRaw := some i, debounced := some i, rawChange := c,
                     faultTimer := none } }).produce q s.time (.keylockPosition pos)).settle) ∧
         (l.position = pos →
           exec (.keylockPatternAccepted q i) s =
             .next (s.withKeyboard q
               { k with
                 keylock :=
                   { position := pos, previousRaw := some i, debounced := some i, rawChange := c,
                     faultTimer := none } }).settle)) ∧
       ((i ≠ 1 ∧ i ≠ 2 ∧ i ≠ 4 ∧ i ≠ 8) →
         ∀ (faulted : Prop) (timer : Option Time),
           (faulted ↔ l.position = .unknown ∧ ∃ j, l.debounced = some j ∧ j ≠ 1 ∧ j ≠ 2 ∧ j ≠ 4 ∧ j ≠ 8) →
           (faulted → timer = l.faultTimer) →
           (¬faulted → timer = match l.faultTimer with | some t => some t | none => some s.time) →
           exec (.keylockPatternAccepted q i) s =
             .next (s.withKeyboard q
               { k with
                 keylock :=
                   { position := l.position, previousRaw := some i, debounced := some i, rawChange := c,
                     faultTimer := timer } }).settle))) ∧
  ((∀ (q : LaneId) (k : Keyboard) (start : Time) (i : BitVec 4) (s : State), k = s.keyboards.get q →
     k.keylock.faultTimer = some start → k.keylock.debounced = some i →
     k.settings.keylockFaultTime ≤ elapsed s.time start →
     exec (.keylockFault q) s =
       .next ((s.withKeyboard q
         { k with keylock := { k.keylock with faultTimer := none, position := .unknown } }).produce q s.time
           (.keylockFault k.keylock.position i)).settle) ∧
   (∀ (q : LaneId) (s : State),
     (∀ t, (s.keyboards.get q).keylock.faultTimer = some t →
       elapsed s.time t < (s.keyboards.get q).settings.keylockFaultTime) →
     exec (.keylockFault q) s = .next s.settle))

/-- SET_KEYBOARD (R75, R76): the settings are brought into their ranges and stored; a change of the geometry or of the
rollover limit, with the KEYBOARD enable on, restarts the matrix with a FORCED_RELEASE for every reported key. That the
raw values and raw-change times a restart discards then hold 0 is the model's choice (log 9). -/
def Obligations.SetKeyboard : Prop :=
  WrongLengthRefused .setKeyboard 0x07 13 ∧ BadLaneRefused .setKeyboard 0x07 13 ∧
  (∀ (tag r c grain n ro kc : Byte) (td ti kf : Half) (q : LaneId) (s : State), tag ≠ 0 → 1 < grain.toNat →
    exec (.setKeyboard tag
      ([laneByte q, r, c, grain, n, ro] ++ halfBytes td ++ halfBytes ti ++ [kc] ++ halfBytes kf)) s =
      .next (s.replied tag 0x07 .badArgument [])) ∧
  (∀ (tag r c n ro kc : Byte) (grain10 : Bool) (td ti kf : Half) (q : LaneId) (k : Keyboard) (g : KeyboardSettings)
    (st : Status) (s : State), tag ≠ 0 → k = s.keyboards.get q →
    g =
      { rows := clamp 1 8 r.toNat, columns := clamp 1 16 c.toNat, grain10 := grain10,
        debounceCount := clamp 1 255 n.toNat, rolloverLimit := clamp 2 10 ro.toNat,
        typematicDelay := clamp 200 2000 td.toNat, typematicInterval := clamp 30 1000 ti.toNat,
        keylockCount := clamp 1 255 kc.toNat, keylockFaultTime := clamp 100 2000 kf.toNat } →
    st =
      (if g.rows = r.toNat ∧ g.columns = c.toNat ∧ g.debounceCount = n.toNat ∧ g.rolloverLimit = ro.toNat ∧
          g.typematicDelay = td.toNat ∧ g.typematicInterval = ti.toNat ∧ g.keylockCount = kc.toNat ∧
          g.keylockFaultTime = kf.toNat then .ok else .adjusted) →
    ((s.modes.get q).current.keyboard = true →
      g.rows ≠ k.settings.rows ∨ g.columns ≠ k.settings.columns ∨ g.rolloverLimit ≠ k.settings.rolloverLimit →
      exec (.setKeyboard tag
        ([laneByte q, r, c, flagByte grain10, n, ro] ++ halfBytes td ++ halfBytes ti ++ [kc] ++ halfBytes kf)) s =
        .next ((((s.withKeyboard q
          { k with
            settings := g
            debounced := 0
            previousRaw := 0
            rawChange := Vector.replicate 128 0
            firstSample := true
            reported := []
            waiting := []
            blocked := []
            absorbed := 0
            typematic := none }).perform q
            (k.reported.map fun r => .produce s.time (.key .forcedRelease r.position r.entry.code))).settle).replied
          tag 0x07 st ([laneByte q] ++ num1 g.rows ++ num1 g.columns ++ [flagByte grain10] ++ num1 g.debounceCount ++
            num1 g.rolloverLimit ++ num2 g.typematicDelay ++ num2 g.typematicInterval ++ num1 g.keylockCount ++
            num2 g.keylockFaultTime))) ∧
    ((s.modes.get q).current.keyboard = false ∨
      (g.rows = k.settings.rows ∧ g.columns = k.settings.columns ∧ g.rolloverLimit = k.settings.rolloverLimit) →
      exec (.setKeyboard tag
        ([laneByte q, r, c, flagByte grain10, n, ro] ++ halfBytes td ++ halfBytes ti ++ [kc] ++ halfBytes kf)) s =
        .next ((s.withKeyboard q { k with settings := g }).settle.replied tag 0x07 st
          ([laneByte q] ++ num1 g.rows ++ num1 g.columns ++ [flagByte grain10] ++ num1 g.debounceCount ++
            num1 g.rolloverLimit ++ num2 g.typematicDelay ++ num2 g.typematicInterval ++ num1 g.keylockCount ++
            num2 g.keylockFaultTime))))

/-- SET_KEYS (R58): the tests in order; and otherwise the entries stand from the first position on, and the keys at the
positions written change state as the table of R58 says: with a new code of 0 a waiting, blocked or absorbed key leaves
its list or set, with another code a key that was down and ignored joins the absorbed set, and a reported key stays.
The waiting keys that stay keep their order, and the blocked keys that stay keep theirs and their press times. -/
def Obligations.SetKeys : Prop :=
  (∀ (tag : Byte) (b : List Byte) (s : State), tag ≠ 0 → b.length < 3 →
    exec (.setKeys tag b) s = .next (s.replied tag 0x08 .badArgument [])) ∧
  (∀ (tag l f n : Byte) (b : List Byte) (s : State), tag ≠ 0 →
    (n = 0 ∨ 64 < n.toNat ∨ b.length ≠ 2 * n.toNat →
      exec (.setKeys tag (l :: f :: n :: b)) s = .next (s.replied tag 0x08 .badArgument [])) ∧
    (n ≠ 0 → n.toNat ≤ 64 → b.length = 2 * n.toNat →
      (3 < l.toNat → exec (.setKeys tag (l :: f :: n :: b)) s = .next (s.replied tag 0x08 .badLane [])) ∧
      (l.toNat ≤ 3 → 128 < f.toNat + n.toNat →
        exec (.setKeys tag (l :: f :: n :: b)) s = .next (s.replied tag 0x08 .badIndex [])) ∧
      (l.toNat ≤ 3 → f.toNat + n.toNat ≤ 128 → (∃ i < n.toNat, 3 < (b.getD (2 * i + 1) 0).toNat) →
        exec (.setKeys tag (l :: f :: n :: b)) s = .next (s.replied tag 0x08 .badArgument [])))) ∧
  (∀ (tag f : Byte) (l : List KeyEntry) (q : LaneId) (k : Keyboard) (s : State), tag ≠ 0 → k = s.keyboards.get q →
    1 ≤ l.length → l.length ≤ 64 → f.toNat + l.length ≤ 128 →
    ∃ k',
      exec (.setKeys tag
        ([laneByte q, f, BitVec.ofNat 8 l.length] ++
          l.flatMap fun e => [e.code, (if e.repeatable then 1 else 0) ||| (if e.repeatRelease then 2 else 0)])) s =
        .next ((s.withKeyboard q k').replied tag 0x08 .ok [laneByte q, f, BitVec.ofNat 8 l.length]) ∧
      k' = { k with keyTable := k'.keyTable, waiting := k'.waiting, blocked := k'.blocked, absorbed := k'.absorbed } ∧
      (∀ stays : KeyPos → Bool,
        (∀ p : KeyPos, stays p = true ↔
          p.val < f.toNat ∨ f.toNat + l.length ≤ p.val ∨ k.isReported p = true ∨
            ∃ e, l[p.val - f.toNat]? = some e ∧ e.code ≠ 0) →
        k'.waiting = k.waiting.filter stays ∧ k'.blocked = k.blocked.filter fun b => stays b.position) ∧
      (∀ p : KeyPos, p.val < f.toNat ∨ f.toNat + l.length ≤ p.val →
        k'.keyTable.get p = k.keyTable.get p ∧ (p ∈ k'.waiting ↔ p ∈ k.waiting) ∧
        k'.isBlocked p = k.isBlocked p ∧ k'.isAbsorbed p = k.isAbsorbed p) ∧
      (∀ (p : KeyPos) (e : KeyEntry), f.toNat ≤ p.val → l[p.val - f.toNat]? = some e →
        k'.keyTable.get p = e ∧
        (k.isReported p = true →
          (p ∈ k'.waiting ↔ p ∈ k.waiting) ∧ k'.isBlocked p = k.isBlocked p ∧ k'.isAbsorbed p = k.isAbsorbed p) ∧
        (k.isReported p = false → e.code = 0 →
          p ∉ k'.waiting ∧ k'.isBlocked p = false ∧ k'.isAbsorbed p = false) ∧
        (k.isReported p = false → e.code ≠ 0 →
          (p ∈ k'.waiting ↔ p ∈ k.waiting) ∧ k'.isBlocked p = k.isBlocked p ∧
          k'.isAbsorbed p =
            (k.isAbsorbed p || (k.down p && decide (p ∉ k.waiting) && !k.isBlocked p)))))

/-! ## The Scanner Ports (chapter 4) -/

/-- A byte is in error when its stop bit was at space, or when with parity EVEN or ODD the ones among the data bits and
the parity bit are not even or odd (R79); a byte completes a terminator as R81 says, and never in error. The length
limit of R84, and the judgement of R85: the tests in order, over a body whose prefix, id, data and LRC stand in the
order of section 4.2; and LENGTH for every body, its prefix right where one is enabled, that is too short to hold the
enabled prefix, id and LRC together with the minimum data length. -/
def Obligations.FrameReading : Prop :=
  ((∀ (parity : Parity) (v : Byte) (bit stopMark : Bool),
     byteInError parity v bit stopMark = true ↔
       stopMark = false ∨
         (parity = .even ∧ ((List.range 8).countP (fun i => v.getLsbD i) + (if bit then 1 else 0)) % 2 = 1) ∨
         (parity = .odd ∧ ((List.range 8).countP (fun i => v.getLsbD i) + (if bit then 1 else 0)) % 2 = 0)) ∧
   (∀ (f : LineFormat) (before : Option RxByte) (b : RxByte),
     f.completes before b = true ↔
       b.error = false ∧
         ((f.twoByteTerminator = false ∧ b.value = f.terminator1) ∨
           (f.twoByteTerminator = true ∧ b.value = f.terminator2 ∧
             ∃ x, before = some x ∧ x.error = false ∧ x.value = f.terminator1)))) ∧
  ((∀ (f : LineFormat) (hi : Nat),
     f.lengthLimit hi =
       (if f.prefixOn then 1 else 0) + (if f.idOn then 1 else 0) + hi + (if f.lrcOn then 1 else 0) +
         (if f.twoByteTerminator then 2 else 1)) ∧
   (∀ (f : LineFormat) (lo : Nat) (body : List RxByte), (∃ b ∈ body, b.error = true) →
     f.causeOf lo body = some .byteError) ∧
   (∀ (f : LineFormat) (lo : Nat) (body : List RxByte) (v : Byte) (l : List Byte), (∀ b ∈ body, b.error = false) →
     body.map RxByte.value = v :: l → f.prefixOn = true → v ≠ f.prefixByte → f.causeOf lo body = some .wrongPrefix) ∧
   (∀ (f : LineFormat) (lo : Nat) (body : List RxByte), (∀ b ∈ body, b.error = false) →
     (f.prefixOn = true → (body.map RxByte.value).head? = some f.prefixByte) →
     body.length < (if f.prefixOn then 1 else 0) + (if f.idOn then 1 else 0) + lo + (if f.lrcOn then 1 else 0) →
     f.causeOf lo body = some .length) ∧
   (∀ (f : LineFormat) (lo : Nat) (body : List RxByte) (pre id data lrc : List Byte), (∀ b ∈ body, b.error = false) →
     body.map RxByte.value = pre ++ id ++ data ++ lrc → pre = (if f.prefixOn then [f.prefixByte] else []) →
     id.length = (if f.idOn then 1 else 0) → lrc.length = (if f.lrcOn then 1 else 0) →
     (data.length < lo → f.causeOf lo body = some .length) ∧
     (lo ≤ data.length → (∃ c ∈ data, c.toNat < 0x20 ∨ 0x7E < c.toNat) → f.causeOf lo body = some .charset) ∧
     (lo ≤ data.length → (∀ c ∈ data, 0x20 ≤ c.toNat ∧ c.toNat ≤ 0x7E) →
       (f.lrcOn = true → lrc ≠ [xorAll (id ++ data)] → f.causeOf lo body = some .lrc) ∧
       ((f.lrcOn = true → lrc = [xorAll (id ++ data)]) →
         f.causeOf lo body = none ∧
         ∀ now mark, f.frameOf now mark body = { id := id.head?, data := data, time := now, inhibited := mark }))))

/-- What a byte does to a port, by its receiver and framing position (R79, R82, R84, R85): not taken with the receiver
off; discarded while skipping, where a terminator ends the skip; and added to the frame otherwise, where one byte more
than the limit judges the frame OVERLENGTH, a terminator ends it, and an empty frame is ignored. That an overdue gap is
judged before the byte is the model's reading (log 2), and that a character under way at a change of the parity is
judged by the parity held when its stop bit arrives is the model's choice (log 31). -/
def Obligations.ScannerByte : Prop :=
  ∀ (q : LaneId) (p : PortId) (v : Byte) (bit stop : Bool) (x : ScannerPort) (b : RxByte) (lo hi : Nat) (s : State),
    x = s.port q p → b = { value := v, error := byteInError x.line.format.parity v bit stop } →
    lo = (if x.bytes = [] then x.line.minData else x.frameMin) →
    hi = (if x.bytes = [] then x.line.maxData else x.frameMax) →
    (x.receiverOn = false → exec (.scannerByte q p v bit stop) s = .next s.settle) ∧
    (x.receiverOn = true → x.framing = .skipping →
      exec (.scannerByte q p v bit stop) s =
        .next (s.withPort q p
          (if x.line.format.completes x.bytes.getLast? b then { x with framing := .aligned, bytes := [] }
           else { x with bytes := [b] })).settle) ∧
    (x.receiverOn = true → x.framing = .aligned → x.bytes ≠ [] → x.line.gapLimit + 1 < elapsed s.time x.lastByte →
      ∀ r, r = ScannerPort.badFrame s.time p .gap { x with framing := .skipping, bytes := [] } →
      exec (.scannerByte q p v bit stop) s = .next ((s.withPort q p (r.1.skipByte b)).perform q r.2).settle) ∧
    (x.receiverOn = true → x.framing = .aligned → (x.bytes = [] ∨ elapsed s.time x.lastByte ≤ x.line.gapLimit + 1) →
      (x.line.format.lengthLimit hi < x.bytes.length + 1 →
        ∀ r, r = ScannerPort.badFrame s.time p .overlength
            { x with framing := .skipping, bytes := [b], frameMin := lo, frameMax := hi, lastByte := s.time } →
        exec (.scannerByte q p v bit stop) s = .next ((s.withPort q p r.1).perform q r.2).settle) ∧
      (x.bytes.length + 1 ≤ x.line.format.lengthLimit hi → x.line.format.completes x.bytes.getLast? b = false →
        exec (.scannerByte q p v bit stop) s =
          .next (s.withPort q p
            { x with bytes := x.bytes ++ [b], frameMin := lo, frameMax := hi, lastByte := s.time }).settle) ∧
      (x.bytes.length + 1 ≤ x.line.format.lengthLimit hi → x.line.format.completes x.bytes.getLast? b = true →
        ∀ (y : ScannerPort) (body : List RxByte),
          y = { x with bytes := [], frameMin := lo, frameMax := hi, lastByte := s.time } →
          body = (x.bytes ++ [b]).take (x.bytes.length + 1 - x.line.format.terminatorLength) →
          (body = [] → exec (.scannerByte q p v bit stop) s = .next (s.withPort q p y).settle) ∧
          (∀ cause r, body ≠ [] → x.line.format.causeOf lo body = some cause → r = y.badFrame s.time p cause →
            exec (.scannerByte q p v bit stop) s = .next ((s.withPort q p r.1).perform q r.2).settle) ∧
          (∀ r, body ≠ [] → x.line.format.causeOf lo body = none →
            r = y.goodFrame p (x.line.format.frameOf s.time (s.inhibited q p) body) →
            exec (.scannerByte q p v bit stop) s = .next ((s.withPort q p r.1).perform q r.2).settle)))

/-- A good frame (R86, R87, R89, R90): counted; in HUNT and CANDIDATE held, until the lock count is reached, when the
port enters LOCKED with SCANNER_LOCKED and hands on the held frames, oldest first, and this one; in LOCKED handed on,
with the consecutive-bad count 0. Symbols a port hands on join the youngest end of the symbols its lane's Symbol
Checker is to take, in the order handed on (R89, R106). That they wait there until the checker takes them is the
model's reading (log 12). A bad frame (R86, R88, R90, R91, R93): the counter of its cause advances (R104); in CANDIDATE
the held frames are discarded and the port goes to HUNT; in LOCKED the consecutive-bad count and the window count rise,
SCANNER_EXCESS is produced when the window count reaches its limit and none was reported in the window, and the port is
lost with MISFRAMES at the loss count, or with EXCESS at the excess with re-hunt on. That the excess-reported mark
keeps its value when the port leaves LOCKED is the model's reading (log 13). -/
def Obligations.FrameAlignment : Prop :=
  (∀ (p : PortId) (f : GoodFrame) (x : ScannerPort) (c : PortCounters),
     c = { x.counters with goodFrames := x.counters.goodFrames + 1 } →
     (x.alignment = .hunt → 2 ≤ x.line.lockCount →
       x.goodFrame p f = ({ x with counters := c, alignment := .candidate, candidateCount := 1, hold := [f] }, [])) ∧
     (x.alignment = .candidate → x.candidateCount + 1 < x.line.lockCount →
       x.goodFrame p f =
         ({ x with counters := c, candidateCount := x.candidateCount + 1, hold := x.hold ++ [f] }, [])) ∧
     ((x.alignment = .hunt ∧ x.line.lockCount ≤ 1) ∨
         (x.alignment = .candidate ∧ x.line.lockCount ≤ x.candidateCount + 1) →
       x.goodFrame p f =
         ({ x with
             counters := c
             alignment := .locked
             candidateCount := 0
             hold := []
             consecutiveBad := 0
             window := some { start := f.time, seconds := x.line.windowSeconds }
             windowCount := 0
             excessReported := false },
           .produce f.time (.scannerLocked p) :: (x.hold ++ [f]).map fun g => .handOn { port := p, frame := g })) ∧
     (x.alignment = .locked →
       x.goodFrame p f = ({ x with counters := c, consecutiveBad := 0 }, [.handOn { port := p, frame := f }]))) ∧
  ((∀ (q : LaneId) (x : Symbol) (s : State),
     s.perform q [.handOn x] =
       s.withChecker q { s.checkers.get q with inbox := (s.checkers.get q).inbox ++ [x] }) ∧
   (∀ (q : LaneId) (l : List Symbol) (s : State),
     ((s.perform q (l.map .handOn)).checkers.get q).inbox = (s.checkers.get q).inbox ++ l)) ∧
  (∀ (now : Time) (p : PortId) (cause : BadCause) (x : ScannerPort) (c : PortCounters),
     c =
       (match cause with
        | .wrongPrefix => { x.counters with badPrefix := x.counters.badPrefix + 1 }
        | .length => { x.counters with badLength := x.counters.badLength + 1 }
        | .charset => { x.counters with badCharset := x.counters.badCharset + 1 }
        | .lrc => { x.counters with badLrc := x.counters.badLrc + 1 }
        | .byteError => { x.counters with byteError := x.counters.byteError + 1 }
        | .gap => { x.counters with gap := x.counters.gap + 1 }
        | .overlength => { x.counters with overlength := x.counters.overlength + 1 }) →
     (x.alignment = .hunt → x.badFrame now p cause = ({ x with counters := c }, [])) ∧
     (x.alignment = .candidate →
       x.badFrame now p cause =
         ({ x with
             alignment := .hunt
             candidateCount := 0
             hold := []
             counters := { c with heldDiscarded := c.heldDiscarded + BitVec.ofNat 32 x.hold.length } }, [])) ∧
     (x.alignment = .locked → ∀ excess, excess = (decide (x.line.excessLimit ≤ x.windowCount + 1) && !x.excessReported) →
       (x.line.lossCount ≤ x.consecutiveBad + 1 →
         x.badFrame now p cause =
           ({ x with
               alignment := .hunt
               consecutiveBad := 0
               window := none
               windowCount := 0
               excessReported := x.excessReported || excess
               counters :=
                 { c with
                   lockLosses := c.lockLosses + 1
                   excessEvents := if excess then c.excessEvents + 1 else c.excessEvents } },
             (if excess then [.produce now (.scannerExcess p)] else []) ++ [.produce now (.scannerLost p .misframes)])) ∧
       (x.consecutiveBad + 1 < x.line.lossCount → excess = true → x.line.rehunt = true →
         x.badFrame now p cause =
           ({ x with
               alignment := .hunt
               consecutiveBad := 0
               window := none
               windowCount := 0
               excessReported := true
               counters := { c with lockLosses := c.lockLosses + 1, excessEvents := c.excessEvents + 1 } },
             [.produce now (.scannerExcess p), .produce now (.scannerLost p .excess)])) ∧
       (x.consecutiveBad + 1 < x.line.lossCount → excess = true → x.line.rehunt = false →
         x.badFrame now p cause =
           ({ x with
               consecutiveBad := x.consecutiveBad + 1
               windowCount := x.windowCount + 1
               excessReported := true
               counters := { c with excessEvents := c.excessEvents + 1 } },
             [.produce now (.scannerExcess p)])) ∧
       (x.consecutiveBad + 1 < x.line.lossCount → excess = false →
         x.badFrame now p cause =
           ({ x with
               consecutiveBad := x.consecutiveBad + 1
               windowCount := x.windowCount + 1
               counters := c }, []))))

/-- How a port goes to HUNT (R88, R91), and what sends it there: a break (R80), RESYNC_SCANNER with its enable on
(R97), the expiry of its gap timer as a bad frame (R83); RESYNC_SCANNER is refused with DISABLED with the enable off.
That the skip a resync starts looks at no byte before it, and that the excess-reported mark keeps its value when the
port leaves LOCKED, are the model's readings (logs 26 and 13). A boundary of the error windows (R92): once a window has
run its seconds the next one starts at its end, with the length now set, count 0 and nothing reported; before that, or
with no window, nothing happens. -/
def Obligations.PortEvents : Prop :=
  ((∀ (now : Time) (p : PortId) (reason : LostReason) (x : ScannerPort),
     (x.alignment = .hunt → x.toHunt now p reason = (x, [])) ∧
     (x.alignment = .candidate →
       x.toHunt now p reason =
         ({ x with
             alignment := .hunt
             candidateCount := 0
             hold := []
             counters :=
               { x.counters with heldDiscarded := x.counters.heldDiscarded + BitVec.ofNat 32 x.hold.length } }, [])) ∧
     (x.alignment = .locked →
       x.toHunt now p reason =
         ({ x with
             alignment := .hunt
             consecutiveBad := 0
             window := none
             windowCount := 0
             counters := { x.counters with lockLosses := x.counters.lockLosses + 1 } },
           [.produce now (.scannerLost p reason)]))) ∧
   (∀ (q : LaneId) (p : PortId) (x : ScannerPort) (s : State), x = s.port q p →
     (x.receiverOn = true → ∀ r, r = ScannerPort.toHunt s.time p .lineBreak { x with framing := .skipping, bytes := [] } →
       exec (.scannerBreak q p) s = .next ((s.withPort q p r.1).perform q r.2).settle) ∧
     (x.receiverOn = false → exec (.scannerBreak q p) s = .next s.settle) ∧
     (x.receiverOn = true → x.framing = .aligned → x.bytes ≠ [] → x.line.gapLimit < elapsed s.time x.lastByte →
       ∀ r, r = ScannerPort.badFrame s.time p .gap { x with framing := .skipping, bytes := [] } →
       exec (.scannerGapExpiry q p) s = .next ((s.withPort q p r.1).perform q r.2).settle) ∧
     (x.receiverOn = false ∨ x.framing = .skipping ∨ x.bytes = [] ∨ elapsed s.time x.lastByte ≤ x.line.gapLimit →
       exec (.scannerGapExpiry q p) s = .next s.settle)) ∧
   WrongLengthRefused .resyncScanner 0x0E 2 ∧ BadLaneRefused .resyncScanner 0x0E 2 ∧
   BadPortRefused .resyncScanner 0x0E 2 ∧
   (∀ (tag : Byte) (q : LaneId) (p : PortId) (x : ScannerPort) (s : State), tag ≠ 0 → x = s.port q p →
     ((s.modes.get q).current.port p = false →
       exec (.resyncScanner tag [laneByte q, portByte p]) s = .next (s.replied tag 0x0E .disabled [])) ∧
     ((s.modes.get q).current.port p = true →
       ∀ r, r = ScannerPort.toHunt s.time p .resync { x with framing := .skipping, bytes := [] } →
       exec (.resyncScanner tag [laneByte q, portByte p]) s =
         .next (((s.withPort q p r.1).perform q r.2).settle.replied tag 0x0E .ok
           [laneByte q, portByte p, x.alignment.code])))) ∧
  ((∀ (q : LaneId) (p : PortId) (x : ScannerPort) (w : ErrorWindow) (e : Time) (s : State), x = s.port q p →
     x.window = some w → e = w.start + BitVec.ofNat 32 (w.seconds * 1000) → reached s.time e = true →
     exec (.errorWindowBoundary q p) s =
       .next (s.withPort q p
         { x with
           window := some { start := e, seconds := x.line.windowSeconds }
           windowCount := 0
           excessReported := false })) ∧
   (∀ (q : LaneId) (p : PortId) (s : State),
     (∀ w, (s.port q p).window = some w → reached s.time (w.start + BitVec.ofNat 32 (w.seconds * 1000)) = false) →
     exec (.errorWindowBoundary q p) s = .next s))

/-- SET_SCANNER_LINE (R99, R100): the tests in order, clamping, and a minimum above the maximum after it refused. A
request carried out replaces the settings; with the receiver on, a change of the line format drops the unfinished frame
and resyncs the port; otherwise a frame whose last byte is older than the new gap limit is judged GAP at once. That a
change of the format drops the frame unjudged, an old last byte or not, is the model's reading (log 27).
SET_SCANNER_IDS (R102): the tests in order, and otherwise the whole map is replaced, an unused entry reading as 0, and
the reply carries the number of used entries. An id byte gives the code of the used entry that holds it, and UNKNOWN
where none does or the frame had none (R101). -/
def Obligations.ScannerSettings : Prop :=
  (WrongLengthRefused .setScannerLine 0x09 20 ∧ BadLaneRefused .setScannerLine 0x09 20 ∧
   BadPortRefused .setScannerLine 0x09 20 ∧
   (∀ (tag : Byte) (q : LaneId) (p : PortId) (b : List Byte) (s : State), tag ≠ 0 → b.length = 18 →
     4 < (b.getD 0 0).toNat ∨ 2 < (b.getD 1 0).toNat ∨ 1 < (b.getD 2 0).toNat ∨ 1 < (b.getD 4 0).toNat ∨
       1 < (b.getD 5 0).toNat ∨ (b.getD 6 0 ≠ 1 ∧ b.getD 6 0 ≠ 2) ∨ 1 < (b.getD 17 0).toNat →
     exec (.setScannerLine tag (laneByte q :: portByte p :: b)) s = .next (s.replied tag 0x09 .badArgument [])) ∧
   (∀ (tag mn mx lk ls w ex : Byte) (gap : Half) (rehunt : Bool) (f : LineFormat) (l : LineSettings) (st : Status)
     (q : LaneId) (p : PortId) (x : ScannerPort) (s : State) (b : List Byte), tag ≠ 0 → x = s.port q p →
     b =
       [laneByte q, portByte p, f.rate.code, f.parity.code, flagByte f.prefixOn, f.prefixByte, flagByte f.idOn,
         flagByte f.lrcOn, if f.twoByteTerminator then 2 else 1, f.terminator1, f.terminator2, mn, mx] ++
         halfBytes gap ++ [lk, ls, w, ex, flagByte rehunt] →
     l =
       { format := f, minData := clamp 1 48 mn.toNat, maxData := clamp 1 48 mx.toNat, gapLimit := clamp 5 500 gap.toNat,
         lockCount := clamp 1 4 lk.toNat, lossCount := clamp 2 8 ls.toNat, windowSeconds := clamp 1 60 w.toNat,
         excessLimit := clamp 1 255 ex.toNat, rehunt := rehunt } →
     st =
       (if l.minData = mn.toNat ∧ l.maxData = mx.toNat ∧ l.gapLimit = gap.toNat ∧ l.lockCount = lk.toNat ∧
           l.lossCount = ls.toNat ∧ l.windowSeconds = w.toNat ∧ l.excessLimit = ex.toNat then .ok else .adjusted) →
     (l.maxData < l.minData → exec (.setScannerLine tag b) s = .next (s.replied tag 0x09 .badArgument [])) ∧
     (l.minData ≤ l.maxData → ∀ r,
       r =
         (if x.receiverOn = true ∧ f ≠ x.line.format then
            ScannerPort.toHunt s.time p .resync { x with line := l, framing := .skipping, bytes := [] }
          else if x.receiverOn = true ∧ x.framing = .aligned ∧ x.bytes ≠ [] ∧ l.gapLimit < elapsed s.time x.lastByte then
            ScannerPort.badFrame s.time p .gap { x with line := l, framing := .skipping, bytes := [] }
          else ({ x with line := l }, [])) →
       exec (.setScannerLine tag b) s =
         .next (((s.withPort q p r.1).perform q r.2).settle.replied tag 0x09 st
           ([laneByte q, portByte p,
               match f.rate with | .r9600 => 0 | .r19200 => 1 | .r38400 => 2 | .r57600 => 3 | .r115200 => 4,
               match f.parity with | .none => 0 | .even => 1 | .odd => 2, flagByte f.prefixOn, f.prefixByte,
               flagByte f.idOn, flagByte f.lrcOn, if f.twoByteTerminator then 2 else 1, f.terminator1, f.terminator2] ++
             num1 l.minData ++ num1 l.maxData ++ num2 l.gapLimit ++ num1 l.lockCount ++ num1 l.lossCount ++
             num1 l.windowSeconds ++ num1 l.excessLimit ++ [flagByte rehunt]))))) ∧
  (WrongLengthRefused .setScannerIds 0x0A 50 ∧ BadLaneRefused .setScannerIds 0x0A 50 ∧
   BadPortRefused .setScannerIds 0x0A 50 ∧
   (∀ (tag : Byte) (q : LaneId) (p : PortId) (m : Fin 16 → Byte × Byte × Byte) (b : List Byte) (s : State), tag ≠ 0 →
     b = laneByte q :: portByte p :: (List.finRange 16).flatMap (fun i => [(m i).1, (m i).2.1, (m i).2.2]) →
     ((∃ i, 1 < (m i).1.toNat ∨ ((m i).1 = 1 ∧ 15 < (m i).2.2.toNat)) ∨
         (∃ i j, i ≠ j ∧ (m i).1 = 1 ∧ (m j).1 = 1 ∧ (m i).2.1 = (m j).2.1) →
       exec (.setScannerIds tag b) s = .next (s.replied tag 0x0A .badArgument [])) ∧
     ((∀ i, (m i).1 = 0 ∨ ((m i).1 = 1 ∧ (m i).2.2.toNat ≤ 15)) →
       (∀ i j, i ≠ j → (m i).1 = 1 → (m j).1 = 1 → (m i).2.1 ≠ (m j).2.1) →
       ∃ v : Vector IdEntry 16,
         (∀ i : Fin 16, v.get i = if (m i).1 = 1 then ⟨true, (m i).2.1, (m i).2.2⟩ else ⟨false, 0, 0⟩) ∧
         exec (.setScannerIds tag b) s =
           .next ((s.withPort q p { s.port q p with idMap := v }).replied tag 0x0A .ok
             ([laneByte q, portByte p] ++ num1 ((List.finRange 16).countP fun i => (m i).1 == 1))))) ∧
   (∀ v : Vector IdEntry 16, symbologyOf v none = 0) ∧
   (∀ (v : Vector IdEntry 16) (id : Byte), (∀ i : Fin 16, (v.get i).used = true → (v.get i).id ≠ id) →
     symbologyOf v (some id) = 0) ∧
   (∀ (v : Vector IdEntry 16) (i : Fin 16), (v.get i).used = true →
     (∀ j : Fin 16, (v.get j).used = true → (v.get j).id = (v.get i).id → j = i) →
     symbologyOf v (some (v.get i).id) = (v.get i).code))

/-! ## The Symbol Checkers and the Scan Meters (chapters 5 and 6) -/

/-- SET_SCANNER_CHECKS (R122) replaces the port's check set, drawn from EAN13, EAN8 and UPCA (bits 1 to 3); SET_REPEAT
(R123) replaces the hold time, at most 5000, and empties the recent-symbol list. Their tests are made in order, and the
replies carry what was taken. -/
def Obligations.CheckerSettings : Prop :=
  WrongLengthRefused .setScannerChecks 0x0B 4 ∧ BadLaneRefused .setScannerChecks 0x0B 4 ∧
  BadPortRefused .setScannerChecks 0x0B 4 ∧
  (∀ (tag : Byte) (m : Half) (q : LaneId) (p : PortId) (s : State), tag ≠ 0 →
    ((∃ n : Nat, n ≠ 1 ∧ n ≠ 2 ∧ n ≠ 3 ∧ m.getLsbD n = true) →
      exec (.setScannerChecks tag ([laneByte q, portByte p] ++ halfBytes m)) s =
        .next (s.replied tag 0x0B .badArgument [])) ∧
    ((∀ n : Nat, m.getLsbD n = true → n = 1 ∨ n = 2 ∨ n = 3) →
      exec (.setScannerChecks tag ([laneByte q, portByte p] ++ halfBytes m)) s =
        .next ((s.withChecker q { s.checkers.get q with checks := (s.checkers.get q).checks.set p m }).replied tag 0x0B
          .ok ([laneByte q, portByte p] ++ halfBytes m)))) ∧
  WrongLengthRefused .setRepeat 0x0C 3 ∧ BadLaneRefused .setRepeat 0x0C 3 ∧
  (∀ (tag : Byte) (t : Half) (q : LaneId) (s : State), tag ≠ 0 →
    exec (.setRepeat tag (laneByte q :: halfBytes t)) s =
      .next ((s.withChecker q { s.checkers.get q with holdTime := min 5000 t.toNat, recent := [] }).replied tag 0x0C
        (if t.toNat ≤ 5000 then .ok else .adjusted)
        ([laneByte q] ++ num2 (min 5000 t.toNat) ++ num1 (s.checkers.get q).recent.length)))

/-- The check digit (R109, R110). The test is made for EAN13, EAN8 and UPCA in the check set, and passes exactly for
data of the code's length, of digits, whose last is the expected check: with the digits before the check weighted 3, 1,
3, … from the right and summed to S, (10 - S mod 10) mod 10. The Symbol Checker takes the oldest symbol handed on
(R106, R107). It is dropped at the first stage that stops it: a failed check digit, which goes back to the port (R111,
R94); the inhibit mark; a match within the hold time, which refreshes its entry (R113). Otherwise it joins the
recent-symbol list (R114), unless the hold time is 0 (R115), and goes on to the Scan Meter. With no symbol handed on
nothing happens. That a port sent from LOCKED to HUNT by the check failure that brings the excess keeps its framing
position and the bytes it holds is the model's reading (log 13). -/
def Obligations.SymbolsChecked : Prop :=
  ((∀ (checks : Half) (code : Byte) (data : List Byte),
     failsCheck checks code data = true ↔
       ∃ n, (code, n) ∈ [((1 : Byte), 13), (2, 8), (3, 12)] ∧ checks.getLsbD code.toNat = true ∧
         passesCheck n data = false) ∧
   (∀ (n : Nat) (body : List Byte) (last : Byte), n ≤ 13 →
     (passesCheck n (body ++ [last]) = true ↔
       body.length + 1 = n ∧ (∀ b ∈ body ++ [last], 0x30 ≤ b.toNat ∧ b.toNat ≤ 0x39) ∧
         last.toNat - 0x30 =
           (10 - ((body.reverse.zip [3, 1, 3, 1, 3, 1, 3, 1, 3, 1, 3, 1]).map
             fun x => (x.1.toNat - 0x30) * x.2).sum % 10) % 10)) ∧
   (∀ n : Nat, 0 < n → passesCheck n [] = false)) ∧
  ((∀ (q : LaneId) (s : State), (s.checkers.get q).inbox = [] → exec (.symbolTake q) s = .next s) ∧
   (∀ (q : LaneId) (x : Symbol) (rest : List Symbol) (c : Checker) (code : Byte) (u : State) (y : ScannerPort) (s : State),
     s.checkers.get q = { c with inbox := x :: rest } → c.inbox = rest → u = s.withChecker q c → y = s.port q x.port →
     code = symbologyOf y.idMap x.frame.id →
     (failsCheck (c.checks.get x.port) code x.frame.data = true →
       ∀ z, z = { y with counters := { y.counters with checkFailures := y.counters.checkFailures + 1 } } →
       (y.alignment ≠ .locked → exec (.symbolTake q) s = .next (u.withPort q x.port z).settle) ∧
       (y.alignment = .locked → y.excessReported = true ∨ y.windowCount + 1 < y.line.excessLimit →
         exec (.symbolTake q) s =
           .next (u.withPort q x.port { z with windowCount := y.windowCount + 1 }).settle) ∧
       (y.alignment = .locked → y.excessReported = false → y.line.excessLimit ≤ y.windowCount + 1 →
         exec (.symbolTake q) s =
           .next
             (if y.line.rehunt then
                (((u.withPort q x.port
                  { z with
                    alignment := .hunt
                    consecutiveBad := 0
                    window := none
                    windowCount := 0
                    excessReported := true
                    counters :=
                      { z.counters with
                        lockLosses := z.counters.lockLosses + 1
                        excessEvents := z.counters.excessEvents + 1 } }).produce q s.time (.scannerExcess x.port)).produce
                  q s.time (.scannerLost x.port .excess)).settle
              else
                ((u.withPort q x.port
                  { z with
                    windowCount := y.windowCount + 1
                    excessReported := true
                    counters := { z.counters with excessEvents := z.counters.excessEvents + 1 } }).produce q s.time
                  (.scannerExcess x.port)).settle))) ∧
     (failsCheck (c.checks.get x.port) code x.frame.data = false → x.frame.inhibited = true →
       exec (.symbolTake q) s =
         .next (u.withPort q x.port
           { y with counters := { y.counters with inhibited := y.counters.inhibited + 1 } }).settle) ∧
     (failsCheck (c.checks.get x.port) code x.frame.data = false → x.frame.inhibited = false →
       (c.holdTime = 0 → exec (.symbolTake q) s = .next (u.meterSymbol q x code).settle) ∧
       (0 < c.holdTime → ∀ (older newer : List RecentEntry) (e : RecentEntry), c.recent = older ++ e :: newer →
         (∀ o ∈ older ++ newer, o.code ≠ code ∨ o.data ≠ x.frame.data) → e.code = code → e.data = x.frame.data →
         c.recent.length ≤ 8 → ∀ r, r = older ++ newer ++ [{ code := code, data := x.frame.data, time := s.time }] →
         (elapsed s.time e.time < c.holdTime →
           exec (.symbolTake q) s =
             .next ((u.withChecker q { c with recent := r }).withPort q x.port
               { y with
                 counters := { y.counters with repeatsSuppressed := y.counters.repeatsSuppressed + 1 } }).settle) ∧
         (c.holdTime ≤ elapsed s.time e.time →
           exec (.symbolTake q) s = .next ((u.withChecker q { c with recent := r }).meterSymbol q x code).settle)) ∧
       (0 < c.holdTime → (∀ o ∈ c.recent, o.code ≠ code ∨ o.data ≠ x.frame.data) → c.recent.length ≤ 8 →
         exec (.symbolTake q) s =
           .next ((u.withChecker q
             { c with
               recent :=
                 (if c.recent.length < 8 then c.recent else c.recent.drop 1) ++
                   [{ code := code, data := x.frame.data, time := s.time }] }).meterSymbol q x code).settle))))

/-- What the Scan Meter does with a symbol (R126 to R129): the refill, what the steady bucket cannot hold spilling into
the burst bucket; the grade by the first of STEADY, BURST and FLOOD and what it takes; its counter; the SYMBOL event;
and then the hold, started by a FLOOD with pacing on, or moved, with PACING_ON where it starts. The release time is the
last-arrival time plus the ceiling of (P × 1000 - S) / R. The release of a pacing hold (R130): at the release time the
buckets are refilled to it, it becomes the last-arrival time, the meter is IDLE and the inhibit resolved, and
PACING_OFF is produced, stamped with it. Before it, or IDLE, nothing happens. SET_METER (R132, R133): the tests in
order; the settings taken, with P within 1 and the SC taken; a running hold ended with PACING_OFF; both buckets full
and the last-arrival time the time of the request. -/
def Obligations.ScanMeters : Prop :=
  (∀ (q : LaneId) (x : Symbol) (code : Byte) (m m1 m2 : Meter) (sum steady burst : Nat) (g : Grade) (n : PortCounters)
     (s : State),
     m = s.meter q x.port → sum = m.steady + min 65535 (elapsed s.time m.lastArrival) * m.rate →
     steady = min sum (m.steadyCapacity * 1000) →
     burst = min (m.burst + (sum - m.steadyCapacity * 1000)) (m.burstCapacity * 1000) →
     g = (if 1000 ≤ steady then .steady else if 1000 ≤ burst then .burst else .flood) →
     m1 =
       { m with
         steady := if g = .steady then steady - 1000 else steady
         burst := if g = .burst then burst - 1000 else burst
         lastArrival := s.time } →
     m2 =
       { m1 with
         pacing :=
           if m.holds = true ∨ (g = .flood ∧ m.pacingOn = true) then
             .holding (s.time + BitVec.ofNat 32 ((m.releaseLevel * 1000 - m1.steady + (m.rate - 1)) / m.rate))
           else .idle } →
     n =
       (match g with
        | .steady => { (s.port q x.port).counters with steady := (s.port q x.port).counters.steady + 1 }
        | .burst => { (s.port q x.port).counters with burst := (s.port q x.port).counters.burst + 1 }
        | .flood => { (s.port q x.port).counters with flood := (s.port q x.port).counters.flood + 1 }) →
     ∀ u,
       u =
         (((((s.withPort q x.port { s.port q x.port with counters := n }).withMeter q x.port m1).produce q x.frame.time
           (.symbol x.port code g x.frame.data none)).withMeter q x.port m2).resolveInhibit q x.port) →
       s.meterSymbol q x code =
         if g = .flood ∧ m.pacingOn = true ∧ m.holds = false then u.produce q s.time (.pacingOn x.port) else u) ∧
  ((∀ (q : LaneId) (p : PortId) (m : Meter) (t : Time) (sum : Nat) (s : State), m = s.meter q p → m.pacing = .holding t →
     reached s.time t = true → sum = m.steady + min 65535 (elapsed t m.lastArrival) * m.rate →
     exec (.pacingRelease q p) s =
       .next ((((s.withMeter q p
         { m with
           steady := min sum (m.steadyCapacity * 1000)
           burst := min (m.burst + (sum - m.steadyCapacity * 1000)) (m.burstCapacity * 1000)
           lastArrival := t
           pacing := .idle }).resolveInhibit q p).produce q t (.pacingOff p)).settle)) ∧
   (∀ (q : LaneId) (p : PortId) (s : State), (∀ t, (s.meter q p).pacing = .holding t → reached s.time t = false) →
     exec (.pacingRelease q p) s = .next s)) ∧
  (WrongLengthRefused .setMeter 0x0D 7 ∧ BadLaneRefused .setMeter 0x0D 7 ∧ BadPortRefused .setMeter 0x0D 7 ∧
   (∀ (tag r sc bc e lv : Byte) (q : LaneId) (p : PortId) (s : State), tag ≠ 0 → 1 < e.toNat →
     exec (.setMeter tag [laneByte q, portByte p, r, sc, bc, e, lv]) s = .next (s.replied tag 0x0D .badArgument [])) ∧
   (∀ (tag r sc bc lv : Byte) (pacing : Bool) (q : LaneId) (p : PortId) (m : Meter) (u : State) (s : State), tag ≠ 0 →
     m =
       { rate := clamp 1 50 r.toNat, steadyCapacity := clamp 1 32 sc.toNat, burstCapacity := min 64 bc.toNat,
         pacingOn := pacing, releaseLevel := clamp 1 (clamp 1 32 sc.toNat) lv.toNat,
         steady := clamp 1 32 sc.toNat * 1000, burst := min 64 bc.toNat * 1000, lastArrival := s.time, pacing := .idle } →
     u = (s.withMeter q p m).resolveInhibit q p →
     exec (.setMeter tag [laneByte q, portByte p, r, sc, bc, flagByte pacing, lv]) s =
       .next ((if (s.meter q p).holds then u.produce q s.time (.pacingOff p) else u).settle.replied tag 0x0D
         (if m.rate = r.toNat ∧ m.steadyCapacity = sc.toNat ∧ m.burstCapacity = bc.toNat ∧ m.releaseLevel = lv.toNat then
            .ok
          else .adjusted)
         ([laneByte q, portByte p] ++ num1 m.rate ++ num1 m.steadyCapacity ++ num1 m.burstCapacity ++
           [flagByte pacing] ++ num1 m.releaseLevel ++ wordBytes s.time))))

/-! ## The Drawer Controllers and the Drive Supply Arbiter (chapter 7) -/

/-- SET_DRAWER (R154): the settings are brought into their ranges, an alarm of 0 kept, and replaced; the fault flag is
cleared, and the reply carries it as it stood. OPEN_DRAWER (R137, R138): the tests in order, each refusal with the
lane, the reason and the drawer state; and otherwise the drawer is QUEUED with its expiry, its request joins the
youngest end of the waiting list, the arbiter tests the list, and the reply carries the state QUEUED. Privilege is what
R179 says. That a body of a wrong length or lane is answered with the fields as received, and the drawer state 0 where
it names no lane, is the model's reading (log 10). -/
def Obligations.DrawerRequests : Prop :=
  (WrongLengthRefused .setDrawer 0x18 12 ∧ BadLaneRefused .setDrawer 0x18 12 ∧
   (∀ (tag n : Byte) (pw ct lo cd qt : Half) (q : LaneId) (g : DrawerSettings) (s : State), tag ≠ 0 →
     g =
       { pulseWidth := clamp 20 250 pw.toNat, confirmTimeout := clamp 100 5000 ct.toNat,
         leftOpenAlarm := if lo = 0 then 0 else clamp 10 600 lo.toNat, cooldown := clamp 200 2000 cd.toNat,
         queueTimeout := clamp 250 5000 qt.toNat, senseCount := clamp 1 20 n.toNat } →
     exec (.setDrawer tag
       ([laneByte q] ++ halfBytes pw ++ halfBytes ct ++ halfBytes lo ++ halfBytes cd ++ halfBytes qt ++ [n])) s =
       .next ((s.withDrawer q { s.drawers.get q with settings := g, fault := false }).settle.replied tag 0x18
         (if g.pulseWidth = pw.toNat ∧ g.confirmTimeout = ct.toNat ∧ g.leftOpenAlarm = lo.toNat ∧
             g.cooldown = cd.toNat ∧ g.queueTimeout = qt.toNat ∧ g.senseCount = n.toNat then .ok else .adjusted)
         ([laneByte q] ++ num2 g.pulseWidth ++ num2 g.confirmTimeout ++ num2 g.leftOpenAlarm ++ num2 g.cooldown ++
           num2 g.queueTimeout ++ num1 g.senseCount ++ [flagByte (s.drawers.get q).fault])))) ∧
  ((∀ (tag : Byte) (b : List Byte) (s : State), tag ≠ 0 → b.length ≠ 2 →
     exec (.openDrawer tag b) s = .next (s.replied tag 0x19 .badArgument (s.openFields b))) ∧
   (∀ s : State, s.openFields [] = [0, 0, 0]) ∧
   (∀ (l : List Byte) (q : LaneId) (s : State),
     s.openFields (laneByte q :: l) = [laneByte q, l.headD 0, (s.drawers.get q).state.code]) ∧
   (∀ (v : Byte) (l : List Byte) (s : State), 3 < v.toNat → s.openFields (v :: l) = [v, l.headD 0, 0]) ∧
   (∀ d : Drawer,
     d.state.code =
       match d.state with
       | .closed => 0 | .queued _ => 1 | .driving _ => 2 | .confirming _ => 3 | .opened _ _ _ => 4) ∧
   (∀ (tag l r : Byte) (s : State), tag ≠ 0 → 3 < l.toNat →
     exec (.openDrawer tag [l, r]) s = .next (s.replied tag 0x19 .badLane [l, r, 0])) ∧
   (∀ (q : LaneId) (s : State),
     s.elevated q = true ↔
       (s.keyboards.get q).keylock.position = .supervisor ∨ (s.keyboards.get q).keylock.position = .service ∨
         (s.modes.get q).attendant = true) ∧
   (∀ (tag r : Byte) (q : LaneId) (d : Drawer) (s : State), tag ≠ 0 → d = s.drawers.get q →
     exec (.openDrawer tag [laneByte q, r]) s =
       if 2 < r.toNat then .next (s.replied tag 0x19 .badArgument [laneByte q, r, d.state.code])
       else if (s.modes.get q).current.drawer = false then
         .next (s.replied tag 0x19 .disabled [laneByte q, r, d.state.code])
       else if (s.interlocks.conditions.get q).lockedOut = true then
         .next (s.replied tag 0x19 .interlocked [laneByte q, r, d.state.code])
       else if (r = 1 ∧ s.elevated q = false) ∨ (r = 2 ∧ (s.keyboards.get q).keylock.position ≠ .service) then
         .next (s.replied tag 0x19 .privilege [laneByte q, r, d.state.code])
       else if d.state ≠ .closed then .next (s.replied tag 0x19 .busy [laneByte q, r, d.state.code])
       else
         .next (({ s with
             arbiter := { s.arbiter with waiting := s.arbiter.waiting ++ [q] } }.withDrawer q
               { d with state := .queued (s.time + BitVec.ofNat 32 d.settings.queueTimeout) }).grantAll.replied
           tag 0x19 .ok [laneByte q, r, 1])))

/-- A grant (R140, R141). A waiting request is eligible when its drawer is not cooling and its lane's DRAWER enable is
on. While a slot is free the oldest eligible request leaves the list, its lane takes the slot, and its drawer is
DRIVING to the pulse end; the others keep their places. The arbiter stops when no slot is free or no request is
eligible. That slot 1 is taken where both are free is the model's reading of the worked example 7.7 (log 21). -/
def Obligations.DriveGrant : Prop :=
  (∀ (s : State) (q : LaneId),
    s.eligible q = true ↔
      (∀ e, (s.drawers.get q).cooldownEnd = some e → reached s.time e = true) ∧
        (s.modes.get q).current.drawer = true) ∧
  (∀ s : State, (∀ q ∈ s.arbiter.waiting, s.eligible q = false) → s.grantOne = s) ∧
  (∀ s : State, s.arbiter.slot1 ≠ none → s.arbiter.slot2 ≠ none → s.grantOne = s) ∧
  (∀ (s : State) (q : LaneId) (older younger : List LaneId), s.arbiter.waiting = older ++ q :: younger →
    (∀ r ∈ older, s.eligible r = false) → s.eligible q = true → q ∉ older → q ∉ younger →
    s.arbiter.slot1 = none ∨ s.arbiter.slot2 = none →
    s.grantOne =
      { s with
        arbiter :=
          { slot1 := if s.arbiter.slot1 = none then some q else s.arbiter.slot1
            slot2 := if s.arbiter.slot1 = none then s.arbiter.slot2 else some q
            waiting := older ++ younger } }.withDrawer q
        { s.drawers.get q with
          state := .driving (s.time + BitVec.ofNat 32 (s.drawers.get q).settings.pulseWidth) }) ∧
  (∀ s : State, s.grantAll = s.grantOne.grantOne ∧ s.grantAll.grantOne = s.grantAll)

/-- The timers of a drawer. PULSE_END (R142): the slot is freed, the cooldown and the confirm timer run from the pulse
end, and the arbiter tests the list. COOLDOWN_END (R142): the cooldown ends, and the arbiter tests the list.
CONFIRM_EXPIRY (R145), QUEUE_EXPIRY (R148) and LEFT_OPEN (R146) produce their events, stamped with the expiry. Each
does nothing before its time or in another state. -/
def Obligations.DrawerTimers : Prop :=
  ∀ (q : LaneId) (d : Drawer) (s : State), d = s.drawers.get q →
    (∀ e, d.state = .driving e → reached s.time e = true →
      exec (.pulseEnd q) s =
        .next ({ s with
          arbiter :=
            { s.arbiter with
              slot1 := if s.arbiter.slot1 = some q then none else s.arbiter.slot1
              slot2 := if s.arbiter.slot2 = some q then none else s.arbiter.slot2 } }.withDrawer q
          { d with
            cooldownEnd := some (e + BitVec.ofNat 32 d.settings.cooldown)
            state := .confirming (e + BitVec.ofNat 32 d.settings.confirmTimeout) }).grantAll) ∧
    ((∀ e, d.state = .driving e → reached s.time e = false) → exec (.pulseEnd q) s = .next s) ∧
    (∀ e, d.cooldownEnd = some e → reached s.time e = true →
      exec (.cooldownEnd q) s = .next (s.withDrawer q { d with cooldownEnd := none }).grantAll) ∧
    ((∀ e, d.cooldownEnd = some e → reached s.time e = false) → exec (.cooldownEnd q) s = .next s) ∧
    (∀ e, d.state = .confirming e → reached s.time e = true →
      exec (.confirmExpiry q) s =
        .next ((s.withDrawer q
          { d with
            state := .closed
            fault := true
            counters := { d.counters with opensFailed := d.counters.opensFailed + 1 } }).produce q e
          .drawerFailed).settle) ∧
    ((∀ e, d.state = .confirming e → reached s.time e = false) → exec (.confirmExpiry q) s = .next s.settle) ∧
    (∀ e, d.state = .queued e → reached s.time e = true →
      exec (.queueExpiry q) s =
        .next (({ s with
          arbiter := { s.arbiter with waiting := s.arbiter.waiting.filter fun r => r != q } }.withDrawer q
          { d with
            state := .closed
            counters := { d.counters with abandoned := d.counters.abandoned + 1 } }).produce q e
          (.drawerAbandoned .queueTimeout)).settle) ∧
    ((∀ e, d.state = .queued e → reached s.time e = false) → exec (.queueExpiry q) s = .next s) ∧
    (∀ start e, d.state = .opened start (some e) false → reached s.time e = true →
      exec (.leftOpen q) s =
        .next ((s.withDrawer q
          { d with
            state := .opened start none true
            counters := { d.counters with leftOpen := d.counters.leftOpen + 1 } }).produce q e .drawerLeftOpen).settle) ∧
    ((∀ start e, d.state = .opened start (some e) false → reached s.time e = false) →
      exec (.leftOpen q) s = .next s.settle)

/-- A sample of the sense switch (R136): the raw value is recorded, and accepted once it differs from the debounced
value and has stood for the debounce time. An accepted open (R143, R144) opens the drawer with the cause its state
gives, starts the left-open alarm (R146), and frees the slot or withdraws the request its lane held; an accepted close
(R147) closes it with the duration it was open. That the arbiter grants the freed slot before the monitors take the
open, so before a lockout that the open starts, is the model's choice: R140 lets either be first (log 6). -/
def Obligations.DrawerSense : Prop :=
  ∀ (q : LaneId) (raw : Bool) (d d1 : Drawer) (c : Instr) (change : Time) (s : State), d = s.drawers.get q →
    c = (if raw then .drawerSenseOpen q else .drawerSenseClose q) →
    change = (if raw = d.senseRaw then d.senseChange else s.time) →
    d1 = { d with senseRaw := raw, senseChange := change } →
    (raw = d.senseOpen ∨ elapsed s.time change < d.settings.senseCount * 10 →
      exec c s = .next (s.withDrawer q d1)) ∧
    (raw = true → d.senseOpen = false → d.settings.senseCount * 10 ≤ elapsed s.time change →
      ∀ (a : Arbiter) (o : DrawerState),
        a =
          { slot1 := if s.arbiter.slot1 = some q then none else s.arbiter.slot1
            slot2 := if s.arbiter.slot2 = some q then none else s.arbiter.slot2
            waiting := s.arbiter.waiting.filter fun r => r != q } →
        o =
          .opened s.time
            (if d.settings.leftOpenAlarm = 0 then none
             else some (s.time + BitVec.ofNat 32 (d.settings.leftOpenAlarm * 1000))) false →
        (∀ e, d.state = .driving e →
          exec c s =
            .next ((({ s with arbiter := a }.withDrawer q
              { d1 with
                senseOpen := true
                state := o
                cooldownEnd := some (s.time + BitVec.ofNat 32 d.settings.cooldown)
                fault := false
                counters := { d.counters with opensCommanded := d.counters.opensCommanded + 1 } }).produce q s.time
              (.drawerOpened .commanded)).grantAll).settle) ∧
        (∀ e, d.state = .confirming e →
          exec c s =
            .next ((({ s with arbiter := a }.withDrawer q
              { d1 with
                senseOpen := true
                state := o
                fault := false
                counters := { d.counters with opensCommanded := d.counters.opensCommanded + 1 } }).produce q s.time
              (.drawerOpened .commanded)).grantAll).settle) ∧
        (∀ e, d.state = .queued e →
          exec c s =
            .next ((({ s with arbiter := a }.withDrawer q
              { d1 with
                senseOpen := true
                state := o
                counters := { d.counters with opensUncommanded := d.counters.opensUncommanded + 1 } }).produce q s.time
              (.drawerOpened .beforeDrive)).grantAll).settle) ∧
        (d.state = .closed →
          exec c s =
            .next ((({ s with arbiter := a }.withDrawer q
              { d1 with
                senseOpen := true
                state := o
                counters := { d.counters with opensUncommanded := d.counters.opensUncommanded + 1 } }).produce q s.time
              (.drawerOpened .uncommanded)).grantAll).settle)) ∧
    (raw = false → d.senseOpen = true → d.settings.senseCount * 10 ≤ elapsed s.time change →
      ∀ start alarm alarmed, d.state = .opened start alarm alarmed →
        exec c s =
          .next ((s.withDrawer q { d1 with senseOpen := false, state := .closed }).produce q s.time
            (.drawerClosed (s.time - start))).settle)

/-! ## The Interlock Monitors (sections 8.1 to 8.3) -/

/-- The match of a monitor (R157), its three states (R158, R159), and what an entry to ACTIVE and a departure from it
do: INTERLOCK_ON before the effects start, and INTERLOCK_OFF after they have ended (R160, R162). The qualify expiry
makes a QUALIFYING monitor ACTIVE. How the monitors follow their conditions (R157): when every enabled monitor's match
is what its condition gives nothing happens; otherwise each change that is due is taken, one at a time, in an order the
spec leaves open. A turn that changes the conditions of other monitors makes those changes due beside the rest, so that
a monitor takes every change of its condition, one that is undone before its turn too; and in the end no monitor is
behind its condition. That the changes are taken after the block's own event, and in any order, is the model's choice
(logs 5, 6 and 20). -/
def Obligations.MonitorTransitions : Prop :=
  ((∀ (m : MonitorSettings) (s : State) (p : PortId), p = (if m.portParam = 1 then .b else .a) →
     (s.matchOf m = true ↔ m.enabled = true ∧ (m.sense = true ↔
       match m.condition with
       | .drawerOpen => ∃ t a b, (s.drawers.get m.sourceLane).state = .opened t a b
       | .drawerFault => (s.drawers.get m.sourceLane).fault = true
       | .keylockIs => (s.keyboards.get m.sourceLane).keylock.position.index = m.keylockParam.toNat
       | .scannerNotLocked => (s.port m.sourceLane p).alignment ≠ .locked
       | .queueAtLeast => m.queueParam ≤ s.store.occ m.sourceLane
       | .pacing => ∃ t, (s.meter m.sourceLane p).pacing = .holding t))) ∧
   (∀ (now : Time) (m : Monitor),
     (m.state = .inactive → m.settings.qualify = 0 →
       m.takeMatch now true = ({ m with isMatch := true, state := .active }, .entered)) ∧
     (m.state = .inactive → m.settings.qualify ≠ 0 →
       m.takeMatch now true = ({ m with isMatch := true, state := .qualifying now }, .none)) ∧
     (∀ t, m.state = .qualifying t → m.takeMatch now false = ({ m with isMatch := false, state := .inactive }, .none)) ∧
     (m.state = .active → m.settings.latched = false →
       m.takeMatch now false = ({ m with isMatch := false, state := .inactive }, .left .matchEnded)) ∧
     (m.state = .active → m.settings.latched = true → ∀ v, m.takeMatch now v = ({ m with isMatch := v }, .none))) ∧
   (∀ (i : MonitorId) (t : Time) (m : Monitor) (r : OffReason) (s : State),
     s.turnMonitor i t (m, .none) = s.withMonitor i m ∧
     s.turnMonitor i t (m, .entered) =
       ((s.withMonitor i m).produce m.settings.sourceLane t (.interlockOn i)).refreshEffects ∧
     s.turnMonitor i t (m, .left r) =
       (s.withMonitor i m).refreshEffects.produce m.settings.sourceLane t (.interlockOff i r)) ∧
   (∀ (i : MonitorId) (m : Monitor) (start e : Time) (s : State), m = s.monitor i → m.state = .qualifying start →
     e = start + BitVec.ofNat 32 (m.settings.qualify * 10) →
     (reached s.time e = true →
       exec (.interlockQualifyExpiry i) s =
         .next (s.turnMonitor i e ({ m with state := .active }, .entered)).settle) ∧
     (reached s.time e = false → exec (.interlockQualifyExpiry i) s = .next s)) ∧
   (∀ (i : MonitorId) (s : State), (∀ t, (s.monitor i).state ≠ .qualifying t) →
     exec (.interlockQualifyExpiry i) s = .next s)) ∧
  ((∀ (s : State) (i : MonitorId),
     i ∈ s.stale ↔ (s.monitor i).settings.enabled = true ∧ (s.monitor i).isMatch ≠ s.matchOf (s.monitor i).settings) ∧
   (∀ (s t : State) (i : MonitorId),
     i ∈ s.rematched t ↔
       (s.monitor i).settings.enabled = true ∧ s.matchOf (s.monitor i).settings ≠ t.matchOf (s.monitor i).settings) ∧
   (∀ s t : State, s.stale.Nodup ∧ (s.rematched t).Nodup) ∧
   (∀ s : State, s.stale = [] → s.settle = s) ∧
   (∀ (s : State) (i : MonitorId), s.stale = [i] →
     s.settle =
       (s.turnMonitor i s.time ((s.monitor i).takeMatch s.time (s.matchOf (s.monitor i).settings))).settle) ∧
   (∀ s : State, MonitorsFollow s.stale s s.settle) ∧
   (∀ s : State, s.settle.stale = []))

/-- The effect conditions (R161): they become what the ACTIVE monitors give; LAMP and TONE of every lane are resolved
again (R167), and each condition that changed is handed on, several in an order the spec leaves open (log 5): the start
of a mute absorbs and releases the keys (R66), the start of a lockout withdraws a QUEUED request with ABANDONED (R149),
a forced inhibit is resolved again (R166), and the ends of a mute and of a lockout change nothing (R67, R149). -/
def Obligations.EffectsHandedOn : Prop :=
  (∀ (ms : Vector Monitor 8) (q : LaneId) (n : Nat),
    anyGives ms q n = true ↔ ∃ i : MonitorId, (ms.get i).state = .active ∧
      (ms.get i).settings.effects.getLsbD n = true ∧ (ms.get i).settings.targets.getLsbD q.val = true) ∧
  (∀ (ms : Vector Monitor 8) (q : LaneId),
    ((allConditions ms).get q).muted = anyGives ms q 0 ∧ ((allConditions ms).get q).inhibitA = anyGives ms q 1 ∧
    ((allConditions ms).get q).inhibitB = anyGives ms q 2 ∧ ((allConditions ms).get q).lockedOut = anyGives ms q 3) ∧
  (∀ s : State, allConditions s.interlocks.monitors = s.interlocks.conditions → s.refreshEffects = s.resolveSignals) ∧
  (∀ (s : State) (q : LaneId) (x : Effect) (v : Bool) (u : State),
    effectChanges s.interlocks.conditions (allConditions s.interlocks.monitors) = [((q, x), v)] →
    u = { s with interlocks := { s.interlocks with conditions := allConditions s.interlocks.monitors } }.resolveSignals →
    s.refreshEffects = u.handEffect ((q, x), v)) ∧
  (∀ (s u : State) (l : List ((LaneId × Effect) × Bool)),
    l = effectChanges s.interlocks.conditions (allConditions s.interlocks.monitors) →
    u = { s with interlocks := { s.interlocks with conditions := allConditions s.interlocks.monitors } }.resolveSignals →
    2 ≤ l.length →
      ∃ order : List ((LaneId × Effect) × Bool), order.Perm l ∧
        s.refreshEffects = order.foldl State.handEffect { u with freeIndex := u.freeIndex + 1 }) ∧
  (∀ (old new : Lanes EffectConditions) (q : LaneId) (v : Bool),
    (((q, Effect.mute), v) ∈ effectChanges old new ↔ (old.get q).muted ≠ v ∧ (new.get q).muted = v) ∧
    (((q, Effect.inhibitA), v) ∈ effectChanges old new ↔ (old.get q).inhibitA ≠ v ∧ (new.get q).inhibitA = v) ∧
    (((q, Effect.inhibitB), v) ∈ effectChanges old new ↔ (old.get q).inhibitB ≠ v ∧ (new.get q).inhibitB = v) ∧
    (((q, Effect.lockout), v) ∈ effectChanges old new ↔ (old.get q).lockedOut ≠ v ∧ (new.get q).lockedOut = v)) ∧
  (∀ old new : Lanes EffectConditions, (effectChanges old new).Nodup) ∧
  (∀ s : State, ∃ o : Lanes LaneOutputs, s.resolveSignals = { s with outputs := o } ∧
    ∀ q : LaneId, (o.get q).inhibits = (s.outputs.get q).inhibits ∧
      ∀ x : SignalOut, (o.get q).signal x = ((s.updateSignal q x id).outputs.get q).signal x) ∧
  (∀ (s : State) (q : LaneId),
    s.handEffect ((q, .mute), true) =
      if (s.modes.get q).current.keyboard = true then s.keyboardDoes q (Keyboard.muteStart s.time) else s) ∧
  (∀ (s : State) (q : LaneId) (e : Time), (s.drawers.get q).state = .queued e →
    s.handEffect ((q, .lockout), true) =
      ({ s with
        arbiter := { s.arbiter with waiting := s.arbiter.waiting.filter fun r => r != q } }.withDrawer q
        { s.drawers.get q with
          state := .closed
          counters :=
            { (s.drawers.get q).counters with abandoned := (s.drawers.get q).counters.abandoned + 1 } }).produce q s.time
        (.drawerAbandoned .lockout)) ∧
  (∀ (s : State) (q : LaneId), (∀ e, (s.drawers.get q).state ≠ .queued e) → s.handEffect ((q, .lockout), true) = s) ∧
  (∀ (s : State) (q : LaneId) (v : Bool),
    s.handEffect ((q, .lockout), false) = s ∧ s.handEffect ((q, .mute), false) = s ∧
    s.handEffect ((q, .inhibitA), v) = s.resolveInhibit q .a ∧ s.handEffect ((q, .inhibitB), v) = s.resolveInhibit q .b)

/-- SET_INTERLOCK (R163, R164): the tests in order, with the parameters of conditions not named untested; the qualify
time and the parameter of QUEUE_AT_LEAST brought into their ranges; and the four steps: an ACTIVE monitor leaves with
INTERLOCK_OFF, the settings are replaced, an enabled monitor whose condition matches begins, and the effects are
recomputed once. The reply carries the settings taken and the states before and after. That the state after is read
before the monitors take what the request's own events bring about is the model's choice (log 29). -/
def Obligations.SetInterlock : Prop :=
  WrongLengthRefused .setInterlock 0x1A 16 ∧
  (∀ (tag n : Byte) (b : List Byte) (s : State), tag ≠ 0 → b.length = 15 → 7 < n.toNat →
    exec (.setInterlock tag (n :: b)) s = .next (s.replied tag 0x1A .badIndex [])) ∧
  (∀ (tag e l : Byte) (i : MonitorId) (b : List Byte) (s : State), tag ≠ 0 → b.length = 13 → 3 < l.toNat →
    exec (.setInterlock tag (BitVec.ofNat 8 i.val :: e :: l :: b)) s = .next (s.replied tag 0x1A .badLane [])) ∧
  (∀ (tag e c kp pp n1 n2 se t1 t2 la tg ef ll tl : Byte) (i : MonitorId) (q : LaneId) (s : State), tag ≠ 0 →
    1 < e.toNat ∨ 5 < c.toNat ∨ 1 < se.toNat ∨ 1 < la.toNat ∨ 15 < tg.toNat ∨ 63 < ef.toNat ∨ 1 < ll.toNat ∨
      1 < tl.toNat ∨ (c = 2 ∧ 4 < kp.toNat) ∨ ((c = 3 ∨ c = 5) ∧ 1 < pp.toNat) →
    exec (.setInterlock tag
      [BitVec.ofNat 8 i.val, e, laneByte q, c, kp, pp, n1, n2, se, t1, t2, la, tg, ef, ll, tl]) s =
      .next (s.replied tag 0x1A .badArgument [])) ∧
  (∀ (tag : Byte) (i : MonitorId) (m g : MonitorSettings) (s s1 s2 : State), tag ≠ 0 →
    m.qualify < 65536 → m.queueParam < 65536 → (m.condition = .keylockIs → m.keylockParam.toNat < 5) →
    (m.condition = .scannerNotLocked ∨ m.condition = .pacing → m.portParam.toNat < 2) →
    g =
      { m with
        qualify := min 255 m.qualify
        queueParam := if m.condition = .queueAtLeast then clamp 1 256 m.queueParam else m.queueParam } →
    s1 =
      (if (s.monitor i).state = .active then
         (s.withMonitor i { s.monitor i with state := .inactive }).produce (s.monitor i).settings.sourceLane s.time
           (.interlockOff i (if g.enabled then .rewritten else .disabled))
       else s) →
    s2 =
      (if s1.matchOf g = false then s1.withMonitor i { settings := g, isMatch := false, state := .inactive }
       else if g.qualify = 0 then
         (s1.withMonitor i { settings := g, isMatch := true, state := .active }).produce g.sourceLane s.time
           (.interlockOn i)
       else s1.withMonitor i { settings := g, isMatch := true, state := .qualifying s.time }) →
    exec (.setInterlock tag
      ([BitVec.ofNat 8 i.val, flagByte m.enabled, laneByte m.sourceLane, m.condition.code, m.keylockParam, m.portParam] ++
        num2 m.queueParam ++ [flagByte m.sense] ++ num2 m.qualify ++
        [flagByte m.latched, m.targets.setWidth 8, m.effects.setWidth 8, m.lampLevel.code, m.toneLevel.code])) s =
      .next (s2.refreshEffects.settle.replied tag 0x1A (if g = m then .ok else .adjusted)
        ([BitVec.ofNat 8 i.val, flagByte g.enabled, laneByte g.sourceLane, g.condition.code, g.keylockParam,
            g.portParam] ++ num2 g.queueParam ++ [flagByte g.sense] ++ num2 g.qualify ++
          [flagByte g.latched, g.targets.setWidth 8, g.effects.setWidth 8, g.lampLevel.code, g.toneLevel.code,
            (s.monitor i).state.code, (s2.monitor i).state.code])))

/-- RELEASE_INTERLOCK (R162): the tests in order; a monitor not ACTIVE is left as it is and answered OK with the flag
"not active"; and otherwise the monitor is INACTIVE, its effects end, and INTERLOCK_OFF is produced with reason
RELEASED. That the reply then gives INACTIVE and match false, also where that event makes the monitor match again, is
the model's choice (log 29). READ_INTERLOCKS (R165): for each monitor its enable, state, match and the time left to its
qualify expiry; for each lane its four effect conditions and the monitors whose forces apply, 8 for none; and nothing
changes. -/
def Obligations.ReleaseAndReadInterlocks : Prop :=
  (WrongLengthRefused .releaseInterlock 0x1B 1 ∧
   (∀ (tag n : Byte) (s : State), tag ≠ 0 → 7 < n.toNat →
     exec (.releaseInterlock tag [n]) s = .next (s.replied tag 0x1B .badIndex [])) ∧
   (∀ (tag : Byte) (i : MonitorId) (m : Monitor) (s : State), tag ≠ 0 → m = s.monitor i →
     exec (.releaseInterlock tag [BitVec.ofNat 8 i.val]) s =
       if m.state ≠ .active then
         .next (s.replied tag 0x1B .ok [BitVec.ofNat 8 i.val, m.state.code, flagByte m.isMatch, 1])
       else if m.isMatch = true then .next (s.replied tag 0x1B .stillMatching [BitVec.ofNat 8 i.val, 2, 1, 0])
       else if m.settings.effects.getLsbD 3 = true ∧ s.elevated m.settings.sourceLane = false then
         .next (s.replied tag 0x1B .privilege [BitVec.ofNat 8 i.val, 2, 0, 0])
       else
         .next (((s.withMonitor i { m with state := .inactive }).refreshEffects.produce m.settings.sourceLane s.time
           (.interlockOff i .released)).settle.replied tag 0x1B .ok [BitVec.ofNat 8 i.val, 0, 0, 0]))) ∧
  (WrongLengthRefused .readInterlocks 0x1C 0 ∧
   (∀ (s : State) (q : LaneId) (n : Nat), (fun i : MonitorId => (s.monitor i).gives q n) =
     fun i => decide ((s.monitor i).state = .active ∧ (s.monitor i).settings.effects.getLsbD n = true ∧
       (s.monitor i).settings.targets.getLsbD q.val = true)) ∧
   (∀ (tag : Byte) (s : State), tag ≠ 0 →
     exec (.readInterlocks tag []) s =
       .next (s.replied tag 0x1C .ok
         (((List.finRange 8).flatMap fun (i : MonitorId) =>
             [flagByte (s.monitor i).settings.enabled, (s.monitor i).state.code, flagByte (s.monitor i).isMatch] ++
               num2
                 (match (s.monitor i).state with
                  | .qualifying t =>
                    if reached s.time (t + BitVec.ofNat 32 ((s.monitor i).settings.qualify * 10)) then 0
                    else (t + BitVec.ofNat 32 ((s.monitor i).settings.qualify * 10) - s.time).toNat
                  | _ => 0)) ++
           (List.finRange 4).flatMap fun (q : LaneId) =>
             [flagByte (s.interlocks.conditions.get q).muted, flagByte (s.interlocks.conditions.get q).lockedOut,
                 flagByte (s.interlocks.conditions.get q).inhibitA, flagByte (s.interlocks.conditions.get q).inhibitB] ++
               num1 (((List.finRange 8).find? fun (i : MonitorId) => (s.monitor i).gives q 4).elim 8 Fin.val) ++
               num1 (((List.finRange 8).find? fun (i : MonitorId) => (s.monitor i).gives q 5).elim 8 Fin.val)))))

/-! ## The Lane Output Units (sections 8.5 and 8.6) -/

/-- The level of LAMP and TONE (R167): the force of the lowest-numbered ACTIVE monitor that forces the output, else the
step being played, else the host value, a BLINK being ON in the first 500 ms of each 1000 from its start; and of an
inhibit (R166): ON while one of its four sources holds it. SET_OUTPUT (R170): the tests in order; LAMP and TONE take
the host value, a BLINK from the moment of the request, and a running pattern is ended; an inhibit takes OFF or ON; the
output is resolved again, and the reply carries its level. -/
def Obligations.Outputs : Prop :=
  ((∀ (s : State) (q : LaneId) (o : SignalOut) (f : SignalOutput → SignalOutput) (y : SignalOutput) (n : Nat),
     y = f ((s.outputs.get q).signal o) → n = (match o with | .lamp => 4 | .tone => 5) →
     s.updateSignal q o f =
       s.withOutputs q ((s.outputs.get q).withSignal o
         { y with
           level :=
             match (List.finRange 8).find? fun (i : MonitorId) => (s.monitor i).gives q n with
             | some i => (match o with | .lamp => (s.monitor i).settings.lampLevel | .tone => (s.monitor i).settings.toneLevel)
             | none =>
               match y.playing with
               | some p => p.current.level
               | none =>
                 match y.host with
                 | .off => .off
                 | .on => .on
                 | .blink start => if (s.time - start).toNat % 1000 < 500 then .on else .off })) ∧
   (∀ (s : State) (q : LaneId) (p : PortId),
     s.resolveInhibit q p =
       s.withOutputs q
         { s.outputs.get q with
           inhibits :=
             (s.outputs.get q).inhibits.set p
               { (s.outputs.get q).inhibits.get p with
                 level :=
                   if (match p with
                       | .a => (s.interlocks.conditions.get q).inhibitA
                       | .b => (s.interlocks.conditions.get q).inhibitB) = true ∨
                     (s.modes.get q).current.port p = false ∨ (∃ t, (s.meter q p).pacing = .holding t) ∨
                     ((s.outputs.get q).inhibits.get p).host = .on then .on else .off } })) ∧
  (WrongLengthRefused .setOutput 0x1D 3 ∧ BadLaneRefused .setOutput 0x1D 3 ∧
   (∀ (tag o v : Byte) (q : LaneId) (s : State), tag ≠ 0 → 3 < o.toNat ∨ 2 < v.toNat ∨ (1 < o.toNat ∧ 1 < v.toNat) →
     exec (.setOutput tag [laneByte q, o, v]) s = .next (s.replied tag 0x1D .badArgument [])) ∧
   (∀ (tag v : Byte) (q : LaneId) (o : SignalOut) (h : HostValue) (u s : State), tag ≠ 0 →
     (v, h) ∈ [((0 : Byte), HostValue.off), (1, .on), (2, .blink s.time)] →
     u = s.updateSignal q o (fun x => { x with host := h, playing := none }) →
     exec (.setOutput tag [laneByte q, match o with | .lamp => 0 | .tone => 1, v]) s =
       .next (u.replied tag 0x1D .ok
         [laneByte q, match o with | .lamp => 0 | .tone => 1, v, flagByte ((s.outputs.get q).signal o).playing.isSome,
           ((u.outputs.get q).signal o).level.code])) ∧
   (∀ (tag : Byte) (q : LaneId) (p : PortId) (l : Level) (u s : State), tag ≠ 0 →
     u =
       (s.withOutputs q
         { s.outputs.get q with
           inhibits :=
             (s.outputs.get q).inhibits.set p { (s.outputs.get q).inhibits.get p with host := l } }).resolveInhibit q p →
     exec (.setOutput tag [laneByte q, match p with | .a => 2 | .b => 3, l.code]) s =
       .next (u.replied tag 0x1D .ok
         [laneByte q, match p with | .a => 2 | .b => 3, l.code, 0, ((u.outputs.get q).inhibits.get p).level.code])))

/-- SET_PATTERN (R169): the tests in order; a step count above 4 is taken as 4, and a duration of 0 within the count as
1; the pattern is replaced whole, and running copies are not changed. The playing of patterns (R168): a start replaces
what plays with a copy of the pattern's first count steps, an empty pattern playing nothing; at the end of a step the
next is played for its duration from that end, and after the last none. A step end before its time, and a BLINK
boundary (R167), only resolve the output again. -/
def Obligations.Patterns : Prop :=
  (WrongLengthRefused .setPattern 0x1E 10 ∧
   (∀ (tag n : Byte) (b : List Byte) (s : State), tag ≠ 0 → b.length = 9 → 7 < n.toNat →
     exec (.setPattern tag (n :: b)) s = .next (s.replied tag 0x1E .badIndex [])) ∧
   (∀ (tag c l0 d0 l1 d1 l2 d2 l3 d3 : Byte) (n : Fin 8) (s : State), tag ≠ 0 →
     1 < l0.toNat ∨ 1 < l1.toNat ∨ 1 < l2.toNat ∨ 1 < l3.toNat →
     exec (.setPattern tag [BitVec.ofNat 8 n.val, c, l0, d0, l1, d1, l2, d2, l3, d3]) s =
       .next (s.replied tag 0x1E .badArgument [])) ∧
   (∀ (tag c d0 d1 d2 d3 : Byte) (l0 l1 l2 l3 : Level) (k e0 e1 e2 e3 : Nat) (n : Fin 8) (s : State), tag ≠ 0 →
     k = min 4 c.toNat → e0 = (if 0 < k then max 1 d0.toNat else d0.toNat) →
     e1 = (if 1 < k then max 1 d1.toNat else d1.toNat) → e2 = (if 2 < k then max 1 d2.toNat else d2.toNat) →
     e3 = (if 3 < k then max 1 d3.toNat else d3.toNat) →
     exec (.setPattern tag [BitVec.ofNat 8 n.val, c, l0.code, d0, l1.code, d1, l2.code, d2, l3.code, d3]) s =
       .next ({ s with
           patterns :=
             s.patterns.set n.val
               { count := k
                 steps :=
                   #v[{ level := l0, duration := e0 }, { level := l1, duration := e1 }, { level := l2, duration := e2 },
                     { level := l3, duration := e3 }] } n.isLt }.replied tag 0x1E
         (if k = c.toNat ∧ e0 = d0.toNat ∧ e1 = d1.toNat ∧ e2 = d2.toNat ∧ e3 = d3.toNat then .ok else .adjusted)
         ([BitVec.ofNat 8 n.val] ++ num1 k ++ [l0.code] ++ num1 e0 ++ [l1.code] ++ num1 e1 ++ [l2.code] ++ num1 e2 ++
           [l3.code] ++ num1 e3)))) ∧
  ((∀ (now : Time) (p : Pattern) (x : SignalOutput),
     ((p.steps.toList.take p.count) = [] → x.start now p = { x with playing := none }) ∧
     (∀ a l, p.steps.toList.take p.count = a :: l →
       x.start now p =
         { x with playing := some { current := a, rest := l, endTime := now + BitVec.ofNat 32 (a.duration * 10) } })) ∧
   (∀ (q : LaneId) (o : SignalOut) (x : SignalOutput) (p : Playing) (s : State), x = (s.outputs.get q).signal o →
     x.playing = some p → reached s.time p.endTime = true →
     (p.rest = [] → exec (.patternStepEnd q o) s = .next (s.updateSignal q o fun _ => { x with playing := none })) ∧
     (∀ a l, p.rest = a :: l →
       exec (.patternStepEnd q o) s =
         .next (s.updateSignal q o fun _ =>
           { x with
             playing :=
               some { current := a, rest := l, endTime := p.endTime + BitVec.ofNat 32 (a.duration * 10) } }))) ∧
   (∀ (q : LaneId) (o : SignalOut) (s : State),
     (∀ p, ((s.outputs.get q).signal o).playing = some p → reached s.time p.endTime = false) →
     exec (.patternStepEnd q o) s = .next (s.updateSignal q o id)) ∧
   (∀ (q : LaneId) (o : SignalOut) (s : State), exec (.blinkBoundary q o) s = .next (s.updateSignal q o id)))

/-! ## The Lane Mode Units (chapter 9) -/

/-- SET_LANE_ENABLES (R175): the tests in order; and the set goes to the current set, the saved set, the attendant set,
or the attendant and the current set, as the target and the attendant flag say. A change of the current set is handed
on. A change of the current enable set (R174): a set that is not changed hands nothing on; and each enable that changed
is handed on, in an order the spec leaves open: KEYBOARD off with a FORCED_RELEASE for every reported key and the
matrix cleared (R68), on with a first sample (R69); a port's receiver off in HUNT with SCANNER_LOST if it was LOCKED,
or on skipping (R96), and its inhibit resolved (R166); DRAWER on with a test of the waiting list (R151). That the
enables change one after another, and the monitors follow after each, is the model's reading (logs 6 and 23), and that
the raw values and raw-change times which KEYBOARD off discards then hold 0 is its choice (log 9). -/
def Obligations.LaneEnables : Prop :=
  (WrongLengthRefused .setLaneEnables 0x05 3 ∧ BadLaneRefused .setLaneEnables 0x05 3 ∧
   (∀ (tag t m : Byte) (q : LaneId) (s : State), tag ≠ 0 → 1 < t.toNat ∨ 15 < m.toNat →
     exec (.setLaneEnables tag [laneByte q, t, m]) s = .next (s.replied tag 0x05 .badArgument [])) ∧
   (∀ (tag : Byte) (e : EnableSet) (q : LaneId) (m : LaneMode) (u s : State), tag ≠ 0 → m = s.modes.get q →
     (m.attendant = false → u = s.setCurrent q e →
       exec (.setLaneEnables tag [laneByte q, 0, e.mask]) s =
         .next (u.replied tag 0x05 .ok [laneByte q, 0, 1, e.mask, 0])) ∧
     (m.attendant = true →
       exec (.setLaneEnables tag [laneByte q, 0, e.mask]) s =
         .next ({ s with modes := s.modes.set q { m with saved := e } }.replied tag 0x05 .ok
           [laneByte q, 0, 2, m.current.mask, 1])) ∧
     (m.attendant = false →
       exec (.setLaneEnables tag [laneByte q, 1, e.mask]) s =
         .next ({ s with modes := s.modes.set q { m with attendantSet := e } }.replied tag 0x05 .ok
           [laneByte q, 1, 4, m.current.mask, 0])) ∧
     (m.attendant = true → u = { s with modes := s.modes.set q { m with attendantSet := e } }.setCurrent q e →
       exec (.setLaneEnables tag [laneByte q, 1, e.mask]) s =
         .next (u.replied tag 0x05 .ok [laneByte q, 1, 5, e.mask, 1])))) ∧
  ((∀ (s : State) (q : LaneId), s.setCurrent q (s.modes.get q).current = s) ∧
   (∀ (s : State) (q : LaneId) (new : EnableSet) (x : Enable) (v : Bool),
     enableChanges (s.modes.get q).current new = [(x, v)] → s.setCurrent q new = s.switchEnable q (x, v)) ∧
   (∀ (s : State) (q : LaneId) (new : EnableSet), 2 ≤ (enableChanges (s.modes.get q).current new).length →
     ∃ l : List (Enable × Bool), l.Perm (enableChanges (s.modes.get q).current new) ∧
       s.setCurrent q new = l.foldl (State.switchEnable q) { s with freeIndex := s.freeIndex + 1 }) ∧
   (∀ (old new : EnableSet) (x : Enable) (v : Bool), (x, v) ∈ enableChanges old new ↔ old.of x ≠ v ∧ new.of x = v) ∧
   (∀ (s : State) (q : LaneId) (k : Keyboard), k = s.keyboards.get q →
     s.switchEnable q (.keyboard, true) =
       ((s.withEnable q .keyboard true).withKeyboard q { k with firstSample := true }).settle ∧
     s.switchEnable q (.keyboard, false) =
       (((s.withEnable q .keyboard false).withKeyboard q
         { k with
           debounced := 0
           previousRaw := 0
           rawChange := Vector.replicate 128 0
           firstSample := false
           reported := []
           waiting := []
           blocked := []
           absorbed := 0
           typematic := none }).perform q
         (k.reported.map fun r => .produce s.time (.key .forcedRelease r.position r.entry.code))).settle) ∧
   (∀ (s : State) (q : LaneId) (p : PortId) (x : ScannerPort), x = s.port q p →
     s.switchEnable q (.scan p, true) =
       (((s.withEnable q (.scan p) true).withPort q p
         { x with receiverOn := true, framing := .skipping, bytes := [] }).resolveInhibit q p).settle ∧
     ∀ r, r = ScannerPort.toHunt s.time p .disabled { x with framing := .skipping, bytes := [] } →
       s.switchEnable q (.scan p, false) =
         ((((s.withEnable q (.scan p) false).withPort q p { r.1 with receiverOn := false }).perform q
           r.2).resolveInhibit q p).settle) ∧
   (∀ (s : State) (q : LaneId),
     s.switchEnable q (.drawer, true) = (s.withEnable q .drawer true).grantAll.settle ∧
     s.switchEnable q (.drawer, false) = (s.withEnable q .drawer false).settle) ∧
   (∀ (s : State) (q : LaneId) (x : Enable) (v : Bool) (m : LaneMode), m = s.modes.get q → ∃ e : EnableSet,
     s.withEnable q x v = { s with modes := s.modes.set q { m with current := e } } ∧
       e.of x = v ∧ ∀ y, y ≠ x → e.of y = m.current.of y))

/-- ENTER_ATTENDANT (R176) and LEAVE_ATTENDANT (R177): the tests in order; and the steps in order: the current set
saved and the flag set, or the flag cleared; the event; and the attendant set, or the saved set, made current. That the
monitors follow the event before the set is made current is the model's choice (log 6), and that the enables of the set
change one after another, as LaneEnables says, is its reading (log 23). -/
def Obligations.AttendantMode : Prop :=
  WrongLengthRefused .enterAttendant 0x1F 1 ∧ BadLaneRefused .enterAttendant 0x1F 1 ∧
  WrongLengthRefused .leaveAttendant 0x20 1 ∧ BadLaneRefused .leaveAttendant 0x20 1 ∧
  (∀ (tag : Byte) (q : LaneId) (m : LaneMode) (u s : State), tag ≠ 0 → m = s.modes.get q →
    (m.attendant = true → exec (.enterAttendant tag [laneByte q]) s = .next (s.replied tag 0x1F .busy [])) ∧
    (m.attendant = false →
      u =
        ({ s with modes := s.modes.set q { m with saved := m.current, attendant := true } }.produce q s.time
          .attendantOn).settle.setCurrent q m.attendantSet →
      exec (.enterAttendant tag [laneByte q]) s =
        .next (u.replied tag 0x1F .ok [laneByte q, m.attendantSet.mask, m.current.mask])) ∧
    (m.attendant = false →
      exec (.leaveAttendant tag [laneByte q]) s =
        .next (s.replied tag 0x20 .ok [laneByte q, 1, m.current.mask])) ∧
    (m.attendant = true →
      u =
        ({ s with modes := s.modes.set q { m with attendant := false } }.produce q s.time
          (.attendantOff .leaveRequest)).settle.setCurrent q m.saved →
      exec (.leaveAttendant tag [laneByte q]) s =
        .next (u.replied tag 0x20 .ok [laneByte q, 0, m.saved.mask])))

/-- READ_LANE_STATUS (R180) reports the lane status record of R206 and changes nothing. -/
def Obligations.ReadLaneStatus : Prop :=
  WrongLengthRefused .readLaneStatus 0x06 1 ∧ BadLaneRefused .readLaneStatus 0x06 1 ∧
  (∀ (tag : Byte) (q : LaneId) (m : LaneMode) (k : Keyboard) (d : Drawer) (c : EffectConditions) (u : LaneOutputs)
    (x : LaneQueue) (s : State), tag ≠ 0 → m = s.modes.get q → k = s.keyboards.get q → d = s.drawers.get q →
    c = s.interlocks.conditions.get q → u = s.outputs.get q → x = s.store.queues.get q →
    exec (.readLaneStatus tag [laneByte q]) s =
      .next (s.replied tag 0x06 .ok
        ([laneByte q, m.current.mask, m.saved.mask, m.attendantSet.mask, flagByte m.attendant,
            flagByte (k.keylock.position == .supervisor || k.keylock.position == .service || m.attendant)] ++
          num1 k.keylock.position.index ++ num1 k.reported.length ++
          [flagByte c.muted, (s.port q .a).alignment.code, (s.port q .b).alignment.code,
            flagByte (s.meter q .a).holds, flagByte (s.meter q .b).holds, d.state.code, flagByte d.fault,
            flagByte (match d.cooldownEnd with | some e => !reached s.time e | none => false), flagByte c.lockedOut,
            flagByte c.inhibitA, flagByte c.inhibitB, u.lamp.level.code, u.tone.level.code,
            u.inhibits.portA.level.code, u.inhibits.portB.level.code] ++
          num2 x.events.length ++ num2 x.lost ++ halfBytes x.nextSequence ++
          [flagByte x.wait.isSome, flagByte (s.link.readyPending.getLsbD q.val)])))

/-- RESET_LANE (R181, with R28, R23, R171, R116, R70, R98, R150, R177): the seven steps in order, the two ports of step
5 in either order, and then the reply. Whatever its steps hand on, it leaves what R182 lists: the rules, profiles,
patterns, meters, the settings of every block, the key-lock state, the saved and attendant sets, fault flags and
cooldowns. That the monitors take the changes the flush causes once the patterns have ended, between steps 2 and 3, is
the model's choice (log 6), and so is that the raw values and raw-change times which the matrix restart discards then
hold 0 (log 9). -/
def Obligations.ResetLane : Prop :=
  WrongLengthRefused .resetLane 0x04 1 ∧ BadLaneRefused .resetLane 0x04 1 ∧
  (∀ (tag : Byte) (q : LaneId) (x : LaneQueue) (s s1 s2 s3 s4 : State), tag ≠ 0 → x = s.store.queues.get q →
    s1 =
      s.withQueue q
        { x with
          events := []
          lost := 0
          wait := none
          counters := { x.counters with flushed := x.counters.flushed + BitVec.ofNat 32 x.events.length } } →
    s2 =
      (match x.wait with
       | some w =>
         s1.push { tag := w.tag, kind := 0x80, body := [13, 0x16, laneByte q] ++ num4 w.timeout ++ [0, 0, 0, 0, 1],
                   origin := .deferred }
       | none => s1) →
    s3 =
      ((s2.updateSignal q .lamp fun o => { o with playing := none }).updateSignal q .tone
        fun o => { o with playing := none }).settle →
    s4 =
      (s3.withChecker q { s3.checkers.get q with recent := [] }).withKeyboard q
        { s3.keyboards.get q with
          debounced := 0
          previousRaw := 0
          rawChange := Vector.replicate 128 0
          firstSample := true
          reported := []
          waiting := []
          blocked := []
          absorbed := 0
          typematic := none } →
    ∃ order s5 s6 s7, (order = [PortId.a, PortId.b] ∨ order = [PortId.b, PortId.a]) ∧
      s5 =
        order.foldl
          (fun u p =>
            (u.portDoes q p fun y =>
              if y.receiverOn then ScannerPort.toHunt s.time p .resync { y with framing := .skipping, bytes := [] }
              else (y, [])).settle)
          { s4 with freeIndex := s4.freeIndex + 1 } ∧
      ((∃ e, (s5.drawers.get q).state = .queued e) →
        s6 =
          (({ s5 with
            arbiter := { s5.arbiter with waiting := s5.arbiter.waiting.filter fun r => r != q } }.withDrawer q
            { s5.drawers.get q with
              state := .closed
              counters :=
                { (s5.drawers.get q).counters with
                  abandoned := (s5.drawers.get q).counters.abandoned + 1 } }).produce q s.time
            (.drawerAbandoned .laneReset)).settle) ∧
      ((∀ e, (s5.drawers.get q).state ≠ .queued e) → s6 = s5) ∧
      ((s.modes.get q).attendant = true →
        s7 =
          ({ s6 with modes := s6.modes.set q { s.modes.get q with attendant := false } }.produce q s.time
            (.attendantOff .laneReset)).settle.setCurrent q (s.modes.get q).saved) ∧
      ((s.modes.get q).attendant = false → s7 = s6) ∧
      exec (.resetLane tag [laneByte q]) s =
        .next (s7.replied tag 0x04 .ok
          [laneByte q, flagByte (s.modes.get q).attendant, flagByte (s5.drawers.get q).isQueued,
            (s7.modes.get q).current.mask])) ∧
  (∀ (tag : Byte) (b : List Byte) (s t : State), exec (.resetLane tag b) s = .next t →
    t.table.rules = s.table.rules ∧ t.table.profiles = s.table.profiles ∧ t.patterns = s.patterns ∧
    t.meters = s.meters ∧ t.store.laneLimits = s.store.laneLimits ∧ t.store.sharedLimits = s.store.sharedLimits ∧
    (∀ i, (t.monitor i).settings = (s.monitor i).settings) ∧
    ∀ r : LaneId, (t.store.queues.get r).reserve = (s.store.queues.get r).reserve ∧
      (t.store.queues.get r).watermark = (s.store.queues.get r).watermark ∧
      (t.keyboards.get r).settings = (s.keyboards.get r).settings ∧
      (t.keyboards.get r).keyTable = (s.keyboards.get r).keyTable ∧
      (t.keyboards.get r).keylock = (s.keyboards.get r).keylock ∧
      (t.modes.get r).saved = (s.modes.get r).saved ∧ (t.modes.get r).attendantSet = (s.modes.get r).attendantSet ∧
      (t.checkers.get r).checks = (s.checkers.get r).checks ∧
      (t.checkers.get r).holdTime = (s.checkers.get r).holdTime ∧
      (t.drawers.get r).settings = (s.drawers.get r).settings ∧ (t.drawers.get r).fault = (s.drawers.get r).fault ∧
      (t.drawers.get r).cooldownEnd = (s.drawers.get r).cooldownEnd ∧
      (t.outputs.get r).lamp.host = (s.outputs.get r).lamp.host ∧
      (t.outputs.get r).tone.host = (s.outputs.get r).tone.host ∧
      ∀ p : PortId, (t.port r p).line = (s.port r p).line ∧ (t.port r p).idMap = (s.port r p).idMap ∧
        ((t.outputs.get r).inhibits.get p).host = ((s.outputs.get r).inhibits.get p).host)

/-! ## Invariants every step keeps -/

/-- R3: the reserves stay within 0 to 32, and the events held beyond them fit the shared pool. -/
def Obligations.StoreFitsKept : Prop :=
  ∀ s t : State, s.StoreFits → step s = .next t → t.StoreFits

/-- R62, R68: no lane reports more keys than its rollover limit, nor any key with its KEYBOARD enable off. -/
def Obligations.KeysFitKept : Prop :=
  ∀ s t : State, s.KeysFit → step s = .next t → t.KeysFit

/-- R126, R112, R188: the buckets stay within their capacities; the recent-symbol lists within 8 entries, no two alike;
the receive buffer within 4 frames and the OVERRUN replies within 8. -/
def Obligations.CapacitiesKept : Prop :=
  (∀ s t : State, s.MetersFit → step s = .next t → t.MetersFit) ∧
  (∀ s t : State, s.RecentFits → step s = .next t → t.RecentFits) ∧
  (∀ s t : State, s.LinkFits → step s = .next t → t.LinkFits)

/-- R87, R92, R96: the alignment state of every port agrees with what is held in it, and its receiver with its enable.
-/
def Obligations.PortsKept : Prop :=
  (∀ s t : State, s.PortsConsistent → step s = .next t → t.PortsConsistent) ∧
  (∀ s t : State, s.PortsFollowEnables → step s = .next t → t.PortsFollowEnables)

/-- R135, R139, R149: at most two solenoids are driven, and no waiting request stands for a lane under a drawer
lockout. A drawer is DRIVING exactly while its lane holds a slot and QUEUED exactly while its request waits; it is OPEN
exactly while the debounced sense value is open. -/
def Obligations.DriveKept : Prop :=
  (∀ s : State, s.DriveAgrees → s.driving.length ≤ 2) ∧
  (∀ s t : State, s.DriveAgrees → s.DrawersFollowSense → s.LockoutHolds → step s = .next t →
    t.DriveAgrees ∧ t.DrawersFollowSense ∧ t.LockoutHolds)

/-- R157, R159, R161: the monitors stand in legal states, each match is what its condition gives, and the effect
conditions are those the ACTIVE monitors give; in states whose drawers agree with the arbiter, which DriveKept says
every step keeps. R166: every inhibit output is at the level its four sources give. -/
def Obligations.MonitorsKept : Prop :=
  (∀ s t : State, s.DriveAgrees → s.MonitorsTrack → s.EffectsTrack → (∀ i, (s.monitor i).Legal) → step s = .next t →
     t.MonitorsTrack ∧ t.EffectsTrack ∧ ∀ i, (t.monitor i).Legal) ∧
  (∀ s t : State, s.InhibitsTrack → step s = .next t → t.InhibitsTrack)

/-- The invariants hold in the state after reset. -/
def Obligations.InvariantsAtReset : Prop :=
  State.reset.StoreFits ∧ State.reset.KeysFit ∧ State.reset.MetersFit ∧ State.reset.RecentFits ∧
  State.reset.LinkFits ∧ State.reset.PortsConsistent ∧ State.reset.PortsFollowEnables ∧ State.reset.DriveAgrees ∧
  State.reset.DrawersFollowSense ∧ State.reset.LockoutHolds ∧ State.reset.MonitorsTrack ∧ State.reset.EffectsTrack ∧
  State.reset.InhibitsTrack ∧ State.reset.Accounted ∧ ∀ i, (State.reset.monitor i).Legal
end

