-- ==== Sys2Proof/Laws/State.lean ====
section
/-!
SUPPORT. Reading what an update wrote: banks, and the parts of the state, one lemma per field and update.
-/

namespace Sys2Proof.Machine

/-! ## Banks -/

@[simp] theorem Lanes.get_set_self {α : Type} (b : Lanes α) (q : LaneId) (x : α) : (b.set q x).get q = x := by
  match q with
  | 0 | 1 | 2 | 3 => rfl

theorem Lanes.get_set_ne {α : Type} (b : Lanes α) {q r : LaneId} (h : r ≠ q) (x : α) :
    (b.set q x).get r = b.get r := by
  match q, r with
  | 0, 0 | 1, 1 | 2, 2 | 3, 3 => exact absurd rfl h
  | 0, 1 | 0, 2 | 0, 3 | 1, 0 | 1, 2 | 1, 3 | 2, 0 | 2, 1 | 2, 3 | 3, 0 | 3, 1 | 3, 2 => rfl

theorem Lanes.get_set {α : Type} (b : Lanes α) (q r : LaneId) (x : α) :
    (b.set q x).get r = if r = q then x else b.get r := by
  by_cases h : r = q
  · subst h; simp
  · simp [h, Lanes.get_set_ne b h]

@[simp] theorem Lanes.get_all {α : Type} (x : α) (q : LaneId) : (Lanes.all x).get q = x := by
  match q with
  | 0 | 1 | 2 | 3 => rfl

@[simp] theorem Lanes.set_get_self {α : Type} (b : Lanes α) (q : LaneId) : b.set q (b.get q) = b := by
  match q with
  | 0 | 1 | 2 | 3 => rfl

@[simp] theorem Lanes.set_set {α : Type} (b : Lanes α) (q : LaneId) (x y : α) : (b.set q x).set q y = b.set q y := by
  match q with
  | 0 | 1 | 2 | 3 => rfl

theorem Lanes.ext {α : Type} {a b : Lanes α} (h : ∀ q, a.get q = b.get q) : a = b := by
  cases a; cases b
  have h0 := h 0; have h1 := h 1; have h2 := h 2; have h3 := h 3
  simp only [Lanes.get] at h0 h1 h2 h3
  simp [h0, h1, h2, h3]

@[simp] theorem Ports.get_set_self {α : Type} (b : Ports α) (p : PortId) (x : α) : (b.set p x).get p = x := by
  cases p <;> rfl

theorem Ports.get_set_ne {α : Type} (b : Ports α) {p r : PortId} (h : r ≠ p) (x : α) :
    (b.set p x).get r = b.get r := by
  cases p <;> cases r <;> first | rfl | exact absurd rfl h

theorem Ports.get_set {α : Type} (b : Ports α) (p r : PortId) (x : α) :
    (b.set p x).get r = if r = p then x else b.get r := by
  by_cases h : r = p
  · subst h; simp
  · simp [h, Ports.get_set_ne b h]

@[simp] theorem Ports.get_both {α : Type} (x : α) (p : PortId) : (Ports.both x).get p = x := by
  cases p <;> rfl

@[simp] theorem Ports.set_get_self {α : Type} (b : Ports α) (p : PortId) : b.set p (b.get p) = b := by
  cases p <;> rfl

@[simp] theorem Ports.set_set {α : Type} (b : Ports α) (p : PortId) (x y : α) : (b.set p x).set p y = b.set p y := by
  cases p <;> rfl

/-! ## The parts of the state -/

theorem State.port_withPort (s : State) (q r : LaneId) (p o : PortId) (x : ScannerPort) :
    (s.withPort q p x).port r o = if r = q ∧ o = p then x else s.port r o := by
  unfold State.port State.withPort
  by_cases h : r = q
  · subst h
    by_cases h' : o = p
    · subst h'; simp
    · simp [h', Ports.get_set_ne _ h']
  · simp [h, Lanes.get_set_ne _ h]

@[simp] theorem State.port_withPort_self (s : State) (q : LaneId) (p : PortId) (x : ScannerPort) :
    (s.withPort q p x).port q p = x := by
  simp [State.port_withPort]

theorem State.meter_withMeter (s : State) (q r : LaneId) (p o : PortId) (m : Meter) :
    (s.withMeter q p m).meter r o = if r = q ∧ o = p then m else s.meter r o := by
  unfold State.meter State.withMeter
  by_cases h : r = q
  · subst h
    by_cases h' : o = p
    · subst h'; simp
    · simp [h', Ports.get_set_ne _ h']
  · simp [h, Lanes.get_set_ne _ h]

@[simp] theorem State.meter_withMeter_self (s : State) (q : LaneId) (p : PortId) (m : Meter) :
    (s.withMeter q p m).meter q p = m := by
  simp [State.meter_withMeter]

theorem State.monitor_withMonitor (s : State) (i j : MonitorId) (m : Monitor) :
    (s.withMonitor i m).monitor j = if j = i then m else s.monitor j := by
  change (s.interlocks.monitors.set i.val m i.isLt)[j.val] = if j = i then m else s.interlocks.monitors[j.val]
  rw [Vector.getElem_set]
  by_cases h : j = i
  · simp [h]
  · have : i.val ≠ j.val := fun e => h (Fin.ext e.symm)
    simp [h, this]

@[simp] theorem State.monitor_withMonitor_self (s : State) (i : MonitorId) (m : Monitor) :
    (s.withMonitor i m).monitor i = m := by
  simp [State.monitor_withMonitor]

/-! ## Fields after an update -/

@[simp] theorem State.withPort_time (s : State) (q : LaneId) (p : PortId) (x : ScannerPort) :
    (s.withPort q p x).time = s.time :=
  rfl

@[simp] theorem State.withPort_link (s : State) (q : LaneId) (p : PortId) (x : ScannerPort) :
    (s.withPort q p x).link = s.link :=
  rfl

@[simp] theorem State.withPort_store (s : State) (q : LaneId) (p : PortId) (x : ScannerPort) :
    (s.withPort q p x).store = s.store :=
  rfl

@[simp] theorem State.withPort_table (s : State) (q : LaneId) (p : PortId) (x : ScannerPort) :
    (s.withPort q p x).table = s.table :=
  rfl

@[simp] theorem State.withPort_keyboards (s : State) (q : LaneId) (p : PortId) (x : ScannerPort) :
    (s.withPort q p x).keyboards = s.keyboards :=
  rfl

@[simp] theorem State.withPort_scanners (s : State) (q : LaneId) (p : PortId) (x : ScannerPort) :
    (s.withPort q p x).scanners = s.scanners.set q ((s.scanners.get q).set p x) :=
  rfl

@[simp] theorem State.withPort_checkers (s : State) (q : LaneId) (p : PortId) (x : ScannerPort) :
    (s.withPort q p x).checkers = s.checkers :=
  rfl

@[simp] theorem State.withPort_meters (s : State) (q : LaneId) (p : PortId) (x : ScannerPort) :
    (s.withPort q p x).meters = s.meters :=
  rfl

@[simp] theorem State.withPort_drawers (s : State) (q : LaneId) (p : PortId) (x : ScannerPort) :
    (s.withPort q p x).drawers = s.drawers :=
  rfl

@[simp] theorem State.withPort_arbiter (s : State) (q : LaneId) (p : PortId) (x : ScannerPort) :
    (s.withPort q p x).arbiter = s.arbiter :=
  rfl

@[simp] theorem State.withPort_interlocks (s : State) (q : LaneId) (p : PortId) (x : ScannerPort) :
    (s.withPort q p x).interlocks = s.interlocks :=
  rfl

@[simp] theorem State.withPort_outputs (s : State) (q : LaneId) (p : PortId) (x : ScannerPort) :
    (s.withPort q p x).outputs = s.outputs :=
  rfl

@[simp] theorem State.withPort_patterns (s : State) (q : LaneId) (p : PortId) (x : ScannerPort) :
    (s.withPort q p x).patterns = s.patterns :=
  rfl

@[simp] theorem State.withPort_modes (s : State) (q : LaneId) (p : PortId) (x : ScannerPort) :
    (s.withPort q p x).modes = s.modes :=
  rfl

@[simp] theorem State.withPort_freeIndex (s : State) (q : LaneId) (p : PortId) (x : ScannerPort) :
    (s.withPort q p x).freeIndex = s.freeIndex :=
  rfl

@[simp] theorem State.withPort_pending (s : State) (q : LaneId) (p : PortId) (x : ScannerPort) :
    (s.withPort q p x).pending = s.pending :=
  rfl

@[simp] theorem State.withMeter_time (s : State) (q : LaneId) (p : PortId) (m : Meter) :
    (s.withMeter q p m).time = s.time :=
  rfl

@[simp] theorem State.withMeter_link (s : State) (q : LaneId) (p : PortId) (m : Meter) :
    (s.withMeter q p m).link = s.link :=
  rfl

@[simp] theorem State.withMeter_store (s : State) (q : LaneId) (p : PortId) (m : Meter) :
    (s.withMeter q p m).store = s.store :=
  rfl

@[simp] theorem State.withMeter_table (s : State) (q : LaneId) (p : PortId) (m : Meter) :
    (s.withMeter q p m).table = s.table :=
  rfl

@[simp] theorem State.withMeter_keyboards (s : State) (q : LaneId) (p : PortId) (m : Meter) :
    (s.withMeter q p m).keyboards = s.keyboards :=
  rfl

@[simp] theorem State.withMeter_scanners (s : State) (q : LaneId) (p : PortId) (m : Meter) :
    (s.withMeter q p m).scanners = s.scanners :=
  rfl

@[simp] theorem State.withMeter_checkers (s : State) (q : LaneId) (p : PortId) (m : Meter) :
    (s.withMeter q p m).checkers = s.checkers :=
  rfl

@[simp] theorem State.withMeter_meters (s : State) (q : LaneId) (p : PortId) (m : Meter) :
    (s.withMeter q p m).meters = s.meters.set q ((s.meters.get q).set p m) :=
  rfl

@[simp] theorem State.withMeter_drawers (s : State) (q : LaneId) (p : PortId) (m : Meter) :
    (s.withMeter q p m).drawers = s.drawers :=
  rfl

@[simp] theorem State.withMeter_arbiter (s : State) (q : LaneId) (p : PortId) (m : Meter) :
    (s.withMeter q p m).arbiter = s.arbiter :=
  rfl

@[simp] theorem State.withMeter_interlocks (s : State) (q : LaneId) (p : PortId) (m : Meter) :
    (s.withMeter q p m).interlocks = s.interlocks :=
  rfl

@[simp] theorem State.withMeter_outputs (s : State) (q : LaneId) (p : PortId) (m : Meter) :
    (s.withMeter q p m).outputs = s.outputs :=
  rfl

@[simp] theorem State.withMeter_patterns (s : State) (q : LaneId) (p : PortId) (m : Meter) :
    (s.withMeter q p m).patterns = s.patterns :=
  rfl

@[simp] theorem State.withMeter_modes (s : State) (q : LaneId) (p : PortId) (m : Meter) :
    (s.withMeter q p m).modes = s.modes :=
  rfl

@[simp] theorem State.withMeter_freeIndex (s : State) (q : LaneId) (p : PortId) (m : Meter) :
    (s.withMeter q p m).freeIndex = s.freeIndex :=
  rfl

@[simp] theorem State.withMeter_pending (s : State) (q : LaneId) (p : PortId) (m : Meter) :
    (s.withMeter q p m).pending = s.pending :=
  rfl

@[simp] theorem State.withChecker_time (s : State) (q : LaneId) (c : Checker) :
    (s.withChecker q c).time = s.time :=
  rfl

@[simp] theorem State.withChecker_link (s : State) (q : LaneId) (c : Checker) :
    (s.withChecker q c).link = s.link :=
  rfl

@[simp] theorem State.withChecker_store (s : State) (q : LaneId) (c : Checker) :
    (s.withChecker q c).store = s.store :=
  rfl

@[simp] theorem State.withChecker_table (s : State) (q : LaneId) (c : Checker) :
    (s.withChecker q c).table = s.table :=
  rfl

@[simp] theorem State.withChecker_keyboards (s : State) (q : LaneId) (c : Checker) :
    (s.withChecker q c).keyboards = s.keyboards :=
  rfl

@[simp] theorem State.withChecker_scanners (s : State) (q : LaneId) (c : Checker) :
    (s.withChecker q c).scanners = s.scanners :=
  rfl

@[simp] theorem State.withChecker_checkers (s : State) (q : LaneId) (c : Checker) :
    (s.withChecker q c).checkers = s.checkers.set q c :=
  rfl

@[simp] theorem State.withChecker_meters (s : State) (q : LaneId) (c : Checker) :
    (s.withChecker q c).meters = s.meters :=
  rfl

@[simp] theorem State.withChecker_drawers (s : State) (q : LaneId) (c : Checker) :
    (s.withChecker q c).drawers = s.drawers :=
  rfl

@[simp] theorem State.withChecker_arbiter (s : State) (q : LaneId) (c : Checker) :
    (s.withChecker q c).arbiter = s.arbiter :=
  rfl

@[simp] theorem State.withChecker_interlocks (s : State) (q : LaneId) (c : Checker) :
    (s.withChecker q c).interlocks = s.interlocks :=
  rfl

@[simp] theorem State.withChecker_outputs (s : State) (q : LaneId) (c : Checker) :
    (s.withChecker q c).outputs = s.outputs :=
  rfl

@[simp] theorem State.withChecker_patterns (s : State) (q : LaneId) (c : Checker) :
    (s.withChecker q c).patterns = s.patterns :=
  rfl

@[simp] theorem State.withChecker_modes (s : State) (q : LaneId) (c : Checker) :
    (s.withChecker q c).modes = s.modes :=
  rfl

@[simp] theorem State.withChecker_freeIndex (s : State) (q : LaneId) (c : Checker) :
    (s.withChecker q c).freeIndex = s.freeIndex :=
  rfl

@[simp] theorem State.withChecker_pending (s : State) (q : LaneId) (c : Checker) :
    (s.withChecker q c).pending = s.pending :=
  rfl

@[simp] theorem State.withKeyboard_time (s : State) (q : LaneId) (k : Keyboard) :
    (s.withKeyboard q k).time = s.time :=
  rfl

@[simp] theorem State.withKeyboard_link (s : State) (q : LaneId) (k : Keyboard) :
    (s.withKeyboard q k).link = s.link :=
  rfl

@[simp] theorem State.withKeyboard_store (s : State) (q : LaneId) (k : Keyboard) :
    (s.withKeyboard q k).store = s.store :=
  rfl

@[simp] theorem State.withKeyboard_table (s : State) (q : LaneId) (k : Keyboard) :
    (s.withKeyboard q k).table = s.table :=
  rfl

@[simp] theorem State.withKeyboard_keyboards (s : State) (q : LaneId) (k : Keyboard) :
    (s.withKeyboard q k).keyboards = s.keyboards.set q k :=
  rfl

@[simp] theorem State.withKeyboard_scanners (s : State) (q : LaneId) (k : Keyboard) :
    (s.withKeyboard q k).scanners = s.scanners :=
  rfl

@[simp] theorem State.withKeyboard_checkers (s : State) (q : LaneId) (k : Keyboard) :
    (s.withKeyboard q k).checkers = s.checkers :=
  rfl

@[simp] theorem State.withKeyboard_meters (s : State) (q : LaneId) (k : Keyboard) :
    (s.withKeyboard q k).meters = s.meters :=
  rfl

@[simp] theorem State.withKeyboard_drawers (s : State) (q : LaneId) (k : Keyboard) :
    (s.withKeyboard q k).drawers = s.drawers :=
  rfl

@[simp] theorem State.withKeyboard_arbiter (s : State) (q : LaneId) (k : Keyboard) :
    (s.withKeyboard q k).arbiter = s.arbiter :=
  rfl

@[simp] theorem State.withKeyboard_interlocks (s : State) (q : LaneId) (k : Keyboard) :
    (s.withKeyboard q k).interlocks = s.interlocks :=
  rfl

@[simp] theorem State.withKeyboard_outputs (s : State) (q : LaneId) (k : Keyboard) :
    (s.withKeyboard q k).outputs = s.outputs :=
  rfl

@[simp] theorem State.withKeyboard_patterns (s : State) (q : LaneId) (k : Keyboard) :
    (s.withKeyboard q k).patterns = s.patterns :=
  rfl

@[simp] theorem State.withKeyboard_modes (s : State) (q : LaneId) (k : Keyboard) :
    (s.withKeyboard q k).modes = s.modes :=
  rfl

@[simp] theorem State.withKeyboard_freeIndex (s : State) (q : LaneId) (k : Keyboard) :
    (s.withKeyboard q k).freeIndex = s.freeIndex :=
  rfl

@[simp] theorem State.withKeyboard_pending (s : State) (q : LaneId) (k : Keyboard) :
    (s.withKeyboard q k).pending = s.pending :=
  rfl

@[simp] theorem State.withDrawer_time (s : State) (q : LaneId) (d : Drawer) : (s.withDrawer q d).time = s.time := rfl

@[simp] theorem State.withDrawer_link (s : State) (q : LaneId) (d : Drawer) : (s.withDrawer q d).link = s.link := rfl

@[simp] theorem State.withDrawer_store (s : State) (q : LaneId) (d : Drawer) :
    (s.withDrawer q d).store = s.store :=
  rfl

@[simp] theorem State.withDrawer_table (s : State) (q : LaneId) (d : Drawer) :
    (s.withDrawer q d).table = s.table :=
  rfl

@[simp] theorem State.withDrawer_keyboards (s : State) (q : LaneId) (d : Drawer) :
    (s.withDrawer q d).keyboards = s.keyboards :=
  rfl

@[simp] theorem State.withDrawer_scanners (s : State) (q : LaneId) (d : Drawer) :
    (s.withDrawer q d).scanners = s.scanners :=
  rfl

@[simp] theorem State.withDrawer_checkers (s : State) (q : LaneId) (d : Drawer) :
    (s.withDrawer q d).checkers = s.checkers :=
  rfl

@[simp] theorem State.withDrawer_meters (s : State) (q : LaneId) (d : Drawer) :
    (s.withDrawer q d).meters = s.meters :=
  rfl

@[simp] theorem State.withDrawer_drawers (s : State) (q : LaneId) (d : Drawer) :
    (s.withDrawer q d).drawers = s.drawers.set q d :=
  rfl

@[simp] theorem State.withDrawer_arbiter (s : State) (q : LaneId) (d : Drawer) :
    (s.withDrawer q d).arbiter = s.arbiter :=
  rfl

@[simp] theorem State.withDrawer_interlocks (s : State) (q : LaneId) (d : Drawer) :
    (s.withDrawer q d).interlocks = s.interlocks :=
  rfl

@[simp] theorem State.withDrawer_outputs (s : State) (q : LaneId) (d : Drawer) :
    (s.withDrawer q d).outputs = s.outputs :=
  rfl

@[simp] theorem State.withDrawer_patterns (s : State) (q : LaneId) (d : Drawer) :
    (s.withDrawer q d).patterns = s.patterns :=
  rfl

@[simp] theorem State.withDrawer_modes (s : State) (q : LaneId) (d : Drawer) :
    (s.withDrawer q d).modes = s.modes :=
  rfl

@[simp] theorem State.withDrawer_freeIndex (s : State) (q : LaneId) (d : Drawer) :
    (s.withDrawer q d).freeIndex = s.freeIndex :=
  rfl

@[simp] theorem State.withDrawer_pending (s : State) (q : LaneId) (d : Drawer) :
    (s.withDrawer q d).pending = s.pending :=
  rfl

@[simp] theorem State.withOutputs_time (s : State) (q : LaneId) (u : LaneOutputs) :
    (s.withOutputs q u).time = s.time :=
  rfl

@[simp] theorem State.withOutputs_link (s : State) (q : LaneId) (u : LaneOutputs) :
    (s.withOutputs q u).link = s.link :=
  rfl

@[simp] theorem State.withOutputs_store (s : State) (q : LaneId) (u : LaneOutputs) :
    (s.withOutputs q u).store = s.store :=
  rfl

@[simp] theorem State.withOutputs_table (s : State) (q : LaneId) (u : LaneOutputs) :
    (s.withOutputs q u).table = s.table :=
  rfl

@[simp] theorem State.withOutputs_keyboards (s : State) (q : LaneId) (u : LaneOutputs) :
    (s.withOutputs q u).keyboards = s.keyboards :=
  rfl

@[simp] theorem State.withOutputs_scanners (s : State) (q : LaneId) (u : LaneOutputs) :
    (s.withOutputs q u).scanners = s.scanners :=
  rfl

@[simp] theorem State.withOutputs_checkers (s : State) (q : LaneId) (u : LaneOutputs) :
    (s.withOutputs q u).checkers = s.checkers :=
  rfl

@[simp] theorem State.withOutputs_meters (s : State) (q : LaneId) (u : LaneOutputs) :
    (s.withOutputs q u).meters = s.meters :=
  rfl

@[simp] theorem State.withOutputs_drawers (s : State) (q : LaneId) (u : LaneOutputs) :
    (s.withOutputs q u).drawers = s.drawers :=
  rfl

@[simp] theorem State.withOutputs_arbiter (s : State) (q : LaneId) (u : LaneOutputs) :
    (s.withOutputs q u).arbiter = s.arbiter :=
  rfl

@[simp] theorem State.withOutputs_interlocks (s : State) (q : LaneId) (u : LaneOutputs) :
    (s.withOutputs q u).interlocks = s.interlocks :=
  rfl

@[simp] theorem State.withOutputs_outputs (s : State) (q : LaneId) (u : LaneOutputs) :
    (s.withOutputs q u).outputs = s.outputs.set q u :=
  rfl

@[simp] theorem State.withOutputs_patterns (s : State) (q : LaneId) (u : LaneOutputs) :
    (s.withOutputs q u).patterns = s.patterns :=
  rfl

@[simp] theorem State.withOutputs_modes (s : State) (q : LaneId) (u : LaneOutputs) :
    (s.withOutputs q u).modes = s.modes :=
  rfl

@[simp] theorem State.withOutputs_freeIndex (s : State) (q : LaneId) (u : LaneOutputs) :
    (s.withOutputs q u).freeIndex = s.freeIndex :=
  rfl

@[simp] theorem State.withOutputs_pending (s : State) (q : LaneId) (u : LaneOutputs) :
    (s.withOutputs q u).pending = s.pending :=
  rfl

@[simp] theorem State.withQueue_time (s : State) (q : LaneId) (x : LaneQueue) : (s.withQueue q x).time = s.time := rfl

@[simp] theorem State.withQueue_link (s : State) (q : LaneId) (x : LaneQueue) : (s.withQueue q x).link = s.link := rfl

@[simp] theorem State.withQueue_store (s : State) (q : LaneId) (x : LaneQueue) :
    (s.withQueue q x).store = s.store.withQueue q x :=
  rfl

@[simp] theorem State.withQueue_table (s : State) (q : LaneId) (x : LaneQueue) :
    (s.withQueue q x).table = s.table :=
  rfl

@[simp] theorem State.withQueue_keyboards (s : State) (q : LaneId) (x : LaneQueue) :
    (s.withQueue q x).keyboards = s.keyboards :=
  rfl

@[simp] theorem State.withQueue_scanners (s : State) (q : LaneId) (x : LaneQueue) :
    (s.withQueue q x).scanners = s.scanners :=
  rfl

@[simp] theorem State.withQueue_checkers (s : State) (q : LaneId) (x : LaneQueue) :
    (s.withQueue q x).checkers = s.checkers :=
  rfl

@[simp] theorem State.withQueue_meters (s : State) (q : LaneId) (x : LaneQueue) :
    (s.withQueue q x).meters = s.meters :=
  rfl

@[simp] theorem State.withQueue_drawers (s : State) (q : LaneId) (x : LaneQueue) :
    (s.withQueue q x).drawers = s.drawers :=
  rfl

@[simp] theorem State.withQueue_arbiter (s : State) (q : LaneId) (x : LaneQueue) :
    (s.withQueue q x).arbiter = s.arbiter :=
  rfl

@[simp] theorem State.withQueue_interlocks (s : State) (q : LaneId) (x : LaneQueue) :
    (s.withQueue q x).interlocks = s.interlocks :=
  rfl

@[simp] theorem State.withQueue_outputs (s : State) (q : LaneId) (x : LaneQueue) :
    (s.withQueue q x).outputs = s.outputs :=
  rfl

@[simp] theorem State.withQueue_patterns (s : State) (q : LaneId) (x : LaneQueue) :
    (s.withQueue q x).patterns = s.patterns :=
  rfl

@[simp] theorem State.withQueue_modes (s : State) (q : LaneId) (x : LaneQueue) :
    (s.withQueue q x).modes = s.modes :=
  rfl

@[simp] theorem State.withQueue_freeIndex (s : State) (q : LaneId) (x : LaneQueue) :
    (s.withQueue q x).freeIndex = s.freeIndex :=
  rfl

@[simp] theorem State.withQueue_pending (s : State) (q : LaneId) (x : LaneQueue) :
    (s.withQueue q x).pending = s.pending :=
  rfl

@[simp] theorem State.withMonitor_time (s : State) (i : MonitorId) (m : Monitor) :
    (s.withMonitor i m).time = s.time :=
  rfl

@[simp] theorem State.withMonitor_link (s : State) (i : MonitorId) (m : Monitor) :
    (s.withMonitor i m).link = s.link :=
  rfl

@[simp] theorem State.withMonitor_store (s : State) (i : MonitorId) (m : Monitor) :
    (s.withMonitor i m).store = s.store :=
  rfl

@[simp] theorem State.withMonitor_table (s : State) (i : MonitorId) (m : Monitor) :
    (s.withMonitor i m).table = s.table :=
  rfl

@[simp] theorem State.withMonitor_keyboards (s : State) (i : MonitorId) (m : Monitor) :
    (s.withMonitor i m).keyboards = s.keyboards :=
  rfl

@[simp] theorem State.withMonitor_scanners (s : State) (i : MonitorId) (m : Monitor) :
    (s.withMonitor i m).scanners = s.scanners :=
  rfl

@[simp] theorem State.withMonitor_checkers (s : State) (i : MonitorId) (m : Monitor) :
    (s.withMonitor i m).checkers = s.checkers :=
  rfl

@[simp] theorem State.withMonitor_meters (s : State) (i : MonitorId) (m : Monitor) :
    (s.withMonitor i m).meters = s.meters :=
  rfl

@[simp] theorem State.withMonitor_drawers (s : State) (i : MonitorId) (m : Monitor) :
    (s.withMonitor i m).drawers = s.drawers :=
  rfl

@[simp] theorem State.withMonitor_arbiter (s : State) (i : MonitorId) (m : Monitor) :
    (s.withMonitor i m).arbiter = s.arbiter :=
  rfl

@[simp] theorem State.withMonitor_interlocks (s : State) (i : MonitorId) (m : Monitor) :
    (s.withMonitor i m).interlocks = { s.interlocks with monitors := s.interlocks.monitors.set i.val m i.isLt } :=
  rfl

@[simp] theorem State.withMonitor_outputs (s : State) (i : MonitorId) (m : Monitor) :
    (s.withMonitor i m).outputs = s.outputs :=
  rfl

@[simp] theorem State.withMonitor_patterns (s : State) (i : MonitorId) (m : Monitor) :
    (s.withMonitor i m).patterns = s.patterns :=
  rfl

@[simp] theorem State.withMonitor_modes (s : State) (i : MonitorId) (m : Monitor) :
    (s.withMonitor i m).modes = s.modes :=
  rfl

@[simp] theorem State.withMonitor_freeIndex (s : State) (i : MonitorId) (m : Monitor) :
    (s.withMonitor i m).freeIndex = s.freeIndex :=
  rfl

@[simp] theorem State.withMonitor_pending (s : State) (i : MonitorId) (m : Monitor) :
    (s.withMonitor i m).pending = s.pending :=
  rfl

@[simp] theorem State.push_time (s : State) (m : Message) : (s.push m).time = s.time := rfl

@[simp] theorem State.push_link (s : State) (m : Message) :
    (s.push m).link = { s.link with transmit := s.link.transmit ++ [m] } :=
  rfl

@[simp] theorem State.push_store (s : State) (m : Message) : (s.push m).store = s.store := rfl

@[simp] theorem State.push_table (s : State) (m : Message) : (s.push m).table = s.table := rfl

@[simp] theorem State.push_keyboards (s : State) (m : Message) : (s.push m).keyboards = s.keyboards := rfl

@[simp] theorem State.push_scanners (s : State) (m : Message) : (s.push m).scanners = s.scanners := rfl

@[simp] theorem State.push_checkers (s : State) (m : Message) : (s.push m).checkers = s.checkers := rfl

@[simp] theorem State.push_meters (s : State) (m : Message) : (s.push m).meters = s.meters := rfl

@[simp] theorem State.push_drawers (s : State) (m : Message) : (s.push m).drawers = s.drawers := rfl

@[simp] theorem State.push_arbiter (s : State) (m : Message) : (s.push m).arbiter = s.arbiter := rfl

@[simp] theorem State.push_interlocks (s : State) (m : Message) : (s.push m).interlocks = s.interlocks := rfl

@[simp] theorem State.push_outputs (s : State) (m : Message) : (s.push m).outputs = s.outputs := rfl

@[simp] theorem State.push_patterns (s : State) (m : Message) : (s.push m).patterns = s.patterns := rfl

@[simp] theorem State.push_modes (s : State) (m : Message) : (s.push m).modes = s.modes := rfl

@[simp] theorem State.push_freeIndex (s : State) (m : Message) : (s.push m).freeIndex = s.freeIndex := rfl

@[simp] theorem State.push_pending (s : State) (m : Message) : (s.push m).pending = s.pending := rfl

/-! ## Writing twice, and one enable of the current set -/

@[simp] theorem State.withDrawer_withDrawer (s : State) (q : LaneId) (d d' : Drawer) :
    (s.withDrawer q d).withDrawer q d' = s.withDrawer q d' := by
  simp [State.withDrawer]

@[simp] theorem State.withKeyboard_withKeyboard (s : State) (q : LaneId) (k k' : Keyboard) :
    (s.withKeyboard q k).withKeyboard q k' = s.withKeyboard q k' := by
  simp [State.withKeyboard]

@[simp] theorem State.withChecker_withChecker (s : State) (q : LaneId) (c c' : Checker) :
    (s.withChecker q c).withChecker q c' = s.withChecker q c' := by
  simp [State.withChecker]

@[simp] theorem State.withOutputs_withOutputs (s : State) (q : LaneId) (u u' : LaneOutputs) :
    (s.withOutputs q u).withOutputs q u' = s.withOutputs q u' := by
  simp [State.withOutputs]

@[simp] theorem State.withPort_withPort (s : State) (q : LaneId) (p : PortId) (x x' : ScannerPort) :
    (s.withPort q p x).withPort q p x' = s.withPort q p x' := by
  simp [State.withPort]

@[simp] theorem State.withMeter_withMeter (s : State) (q : LaneId) (p : PortId) (m m' : Meter) :
    (s.withMeter q p m).withMeter q p m' = s.withMeter q p m' := by
  simp [State.withMeter]

@[simp] theorem State.withEnable_time (s : State) (q : LaneId) (x : Enable) (v : Bool) :
    (s.withEnable q x v).time = s.time :=
  rfl

@[simp] theorem State.withEnable_link (s : State) (q : LaneId) (x : Enable) (v : Bool) :
    (s.withEnable q x v).link = s.link :=
  rfl

@[simp] theorem State.withEnable_store (s : State) (q : LaneId) (x : Enable) (v : Bool) :
    (s.withEnable q x v).store = s.store :=
  rfl

@[simp] theorem State.withEnable_table (s : State) (q : LaneId) (x : Enable) (v : Bool) :
    (s.withEnable q x v).table = s.table :=
  rfl

@[simp] theorem State.withEnable_keyboards (s : State) (q : LaneId) (x : Enable) (v : Bool) :
    (s.withEnable q x v).keyboards = s.keyboards :=
  rfl

@[simp] theorem State.withEnable_scanners (s : State) (q : LaneId) (x : Enable) (v : Bool) :
    (s.withEnable q x v).scanners = s.scanners :=
  rfl

@[simp] theorem State.withEnable_checkers (s : State) (q : LaneId) (x : Enable) (v : Bool) :
    (s.withEnable q x v).checkers = s.checkers :=
  rfl

@[simp] theorem State.withEnable_meters (s : State) (q : LaneId) (x : Enable) (v : Bool) :
    (s.withEnable q x v).meters = s.meters :=
  rfl

@[simp] theorem State.withEnable_drawers (s : State) (q : LaneId) (x : Enable) (v : Bool) :
    (s.withEnable q x v).drawers = s.drawers :=
  rfl

@[simp] theorem State.withEnable_arbiter (s : State) (q : LaneId) (x : Enable) (v : Bool) :
    (s.withEnable q x v).arbiter = s.arbiter :=
  rfl

@[simp] theorem State.withEnable_interlocks (s : State) (q : LaneId) (x : Enable) (v : Bool) :
    (s.withEnable q x v).interlocks = s.interlocks :=
  rfl

@[simp] theorem State.withEnable_outputs (s : State) (q : LaneId) (x : Enable) (v : Bool) :
    (s.withEnable q x v).outputs = s.outputs :=
  rfl

@[simp] theorem State.withEnable_patterns (s : State) (q : LaneId) (x : Enable) (v : Bool) :
    (s.withEnable q x v).patterns = s.patterns :=
  rfl

@[simp] theorem State.withEnable_freeIndex (s : State) (q : LaneId) (x : Enable) (v : Bool) :
    (s.withEnable q x v).freeIndex = s.freeIndex :=
  rfl

@[simp] theorem State.withEnable_pending (s : State) (q : LaneId) (x : Enable) (v : Bool) :
    (s.withEnable q x v).pending = s.pending :=
  rfl

theorem State.withEnable_current (s : State) (q r : LaneId) (x : Enable) (v : Bool) :
    ((s.withEnable q x v).modes.get r).current =
      if r = q then ((s.modes.get r).current).withEnable x v else (s.modes.get r).current := by
  unfold State.withEnable
  by_cases h : r = q
  · subst h; simp
  · simp [Lanes.get_set_ne _ h, h]

end Sys2Proof.Machine
end

