-- ==== Sys2Proof/Laws/Events.lean ====
section
/-!
SUPPORT. The event path and the settling of the monitors, said once: a property of states that each elementary update
keeps is kept by producing an event, by performing what a block hands on, and by settling.
-/

namespace Sys2Proof.Machine

/-- What the event path can do to the state: each of these keeps P. -/
structure KeptByEvents (P : State → Prop) : Prop where
  push : ∀ s m, m.origin ≠ .overrun → P s → P (s.push m)
  ready : ∀ s r, P s → P { s with link := { s.link with readyPending := r } }
  outputs : ∀ s u, P s → P { s with outputs := u }
  counted : ∀ s c, P s → P { s with table := s.table.counted c }
  filtered : ∀ s q, P s → P { s with store := s.store.countFiltered q }
  offered : ∀ s q e r, P s → P { s with store := (s.store.offer q e r).1 }
  waited : ∀ s q w, P s → P { s with store := s.store.setWait q w }

/-- What settling can do to the state beside: each of these keeps P. -/
structure KeptByBlocks (P : State → Prop) : Prop extends KeptByEvents P where
  free : ∀ s n, P s → P { s with freeIndex := n }
  inbox : ∀ s q l, P s → P (s.withChecker q { s.checkers.get q with inbox := l })
  emptied : ∀ s q, P s → P (s.withChecker q { s.checkers.get q with recent := [] })
  muted : ∀ s q, P s → P (s.withKeyboard q ((s.keyboards.get q).muteStart s.time).1)
  abandoned : ∀ s q t r, (s.drawers.get q).isQueued = true → P s →
    P ({ s with arbiter := s.arbiter.withdraw q }.withDrawer q ((s.drawers.get q).abandon t r).1)
  tookMatch : ∀ s i t v, (s.monitor i).settings.enabled = true → P s →
    P (s.withMonitor i ((s.monitor i).takeMatch t v).1)
  conditions : ∀ s c, P s → P { s with interlocks := { s.interlocks with conditions := c } }

variable {P : State → Prop}

theorem List.foldl_keeps {α : Type} {f : State → α → State} (hf : ∀ s a, P s → P (f s a)) :
    ∀ (l : List α) (s : State), P s → P (l.foldl f s)
  | [], _, h => h
  | a :: l, s, h => List.foldl_keeps hf l (f s a) (hf s a h)

/-! ## The event path -/

theorem State.completeWait_keeps (k : KeptByEvents P) (s : State) (q : LaneId) (w : Wait) (st : Status) (n : Half)
    (c : Byte) (h : P s) : P (s.completeWait q w st n c) :=
  k.push _ _ (by simp [replyMessage]) (k.waited s q none h)

theorem State.testWait_keeps (k : KeptByEvents P) (s : State) (q : LaneId) (src : Source) (n : Half) (h : P s) :
    P (s.testWait q src n) := by
  unfold State.testWait
  split
  · split
    · exact State.completeWait_keeps k _ _ _ _ _ _ h
    · exact h
  · exact h

theorem State.cancelWait_keeps (k : KeptByEvents P) (s : State) (q : LaneId) (c : Byte) (h : P s) :
    P (s.cancelWait q c) := by
  unfold State.cancelWait
  split
  · exact State.completeWait_keeps k _ _ _ _ _ _ h
  · exact h

theorem State.markReady_keeps (k : KeptByEvents P) (s : State) (q : LaneId) (n : Nat) (h : P s) :
    P (s.markReady q n) := by
  unfold State.markReady
  split
  · exact k.ready s _ h
  · exact h

theorem State.updateSignal_keeps (k : KeptByEvents P) (s : State) (q : LaneId) (o : SignalOut)
    (f : SignalOutput → SignalOutput) (h : P s) : P (s.updateSignal q o f) :=
  k.outputs s _ h

theorem State.resolveSignals_keeps (k : KeptByEvents P) (s : State) (h : P s) : P s.resolveSignals :=
  List.foldl_keeps
    (fun s q h => State.updateSignal_keeps k _ _ _ _ (State.updateSignal_keeps k s q .lamp id h)) allLanes s h

theorem State.resolveInhibit_keeps (k : KeptByEvents P) (s : State) (q : LaneId) (p : PortId) (h : P s) :
    P (s.resolveInhibit q p) :=
  k.outputs s _ h

theorem State.startSignal_keeps (k : KeptByEvents P) (s : State) (q : LaneId) (x : Option (SignalOut × Nat))
    (h : P s) : P (s.startSignal q x) := by
  unfold State.startSignal
  split
  · exact State.updateSignal_keeps k _ _ _ _ h
  · exact h

theorem State.offerEvent_keeps (k : KeptByEvents P) (s : State) (d : LaneId) (e : Event)
    (x : Option (SignalOut × Nat)) (h : P s) : P (s.offerEvent d e x) := by
  have h1 := k.offered s d e (d != e.lane) h
  unfold State.offerEvent
  simp only
  split
  · exact State.startSignal_keeps k _ _ _ (State.markReady_keeps k _ _ _ (State.testWait_keeps k _ _ _ _ h1))
  · exact h1

/-- Producing an event keeps what the elementary updates of the event path keep. -/
theorem State.produce_keeps (k : KeptByEvents P) (s : State) (q : LaneId) (t : Time) (b : EventBody) (h : P s) :
    P (s.produce q t b) := by
  have h1 := k.counted s (s.actionsFor q b).count h
  unfold State.produce
  simp only
  split
  · exact k.filtered _ q h1
  · exact State.offerEvent_keeps k _ _ _ _ h1
  · exact State.offerEvent_keeps k _ _ _ _ h1

/-! ## The blocks -/

theorem State.inOrder_keeps {α : Type} (k : KeptByBlocks P) (s : State) (l : List α) (h : P s) :
    P (s.inOrder l).2 := by
  unfold State.inOrder
  split
  · exact h
  · exact k.free s _ h

theorem State.perform_keeps (k : KeptByBlocks P) (q : LaneId) (l : List LaneEffect) (s : State) (h : P s) :
    P (s.perform q l) := by
  refine List.foldl_keeps (fun s e h => ?_) l s h
  cases e with
  | produce t b => exact State.produce_keeps k.toKeptByEvents s q t b h
  | handOn x => exact k.inbox s q _ h
  | emptyRecent => exact k.emptied s q h

theorem State.keyboardDoes_keeps (k : KeptByBlocks P) (s : State) (q : LaneId)
    (f : Keyboard → Keyboard × List LaneEffect) (h : P (s.withKeyboard q (f (s.keyboards.get q)).1)) :
    P (s.keyboardDoes q f) :=
  State.perform_keeps k q _ _ h

theorem State.portDoes_keeps (k : KeptByBlocks P) (s : State) (q : LaneId) (p : PortId)
    (f : ScannerPort → ScannerPort × List LaneEffect) (h : P (s.withPort q p (f (s.port q p)).1)) :
    P (s.portDoes q p f) :=
  State.perform_keeps k q _ _ h

theorem State.drawerDoes_keeps (k : KeptByBlocks P) (s : State) (q : LaneId)
    (f : Drawer → Drawer × List LaneEffect) (h : P (s.withDrawer q (f (s.drawers.get q)).1)) :
    P (s.drawerDoes q f) :=
  State.perform_keeps k q _ _ h

theorem State.abandonOpen_keeps (k : KeptByBlocks P) (s : State) (q : LaneId) (t : Time) (r : AbandonReason)
    (hq : (s.drawers.get q).isQueued = true) (h : P s) : P (s.abandonOpen q t r) :=
  State.perform_keeps k q _ _ (k.abandoned s q t r hq h)

theorem State.handEffect_keeps (k : KeptByBlocks P) (s : State) (x : (LaneId × Effect) × Bool) (h : P s) :
    P (s.handEffect x) := by
  unfold State.handEffect
  split
  · split
    · exact State.keyboardDoes_keeps k _ _ _ (k.muted s _ h)
    · exact h
  · exact h
  · split
    · exact State.abandonOpen_keeps k _ _ _ _ ‹_› h
    · exact h
  · exact h
  · exact State.resolveInhibit_keeps k.toKeptByEvents _ _ _ h
  · exact State.resolveInhibit_keeps k.toKeptByEvents _ _ _ h

theorem State.refreshEffects_keeps (k : KeptByBlocks P) (s : State) (h : P s) : P s.refreshEffects :=
  List.foldl_keeps (fun s x h => State.handEffect_keeps k s x h) _ _
    (State.inOrder_keeps k _ _ (State.resolveSignals_keeps k.toKeptByEvents _ (k.conditions s _ h)))

theorem State.turnMonitor_keeps (k : KeptByBlocks P) (s : State) (i : MonitorId) (t : Time)
    (r : Monitor × MonitorTurn) (h : P (s.withMonitor i r.1)) : P (s.turnMonitor i t r) := by
  unfold State.turnMonitor
  simp only
  split
  · exact h
  · exact State.refreshEffects_keeps k _ (State.produce_keeps k.toKeptByEvents _ _ _ _ h)
  · exact State.produce_keeps k.toKeptByEvents _ _ _ _ (State.refreshEffects_keeps k _ h)

/-- The members of a reordering are the members of the list. -/
theorem mem_insertAt {α : Type} (a x : α) : ∀ (n : Nat) (l : List α), x ∈ insertAt n a l ↔ x = a ∨ x ∈ l
  | 0, l => by simp [insertAt]
  | n + 1, [] => by simp [insertAt]
  | n + 1, y :: l => by
    simp only [insertAt, List.mem_cons, mem_insertAt a x n l]
    constructor
    · rintro (h | h | h) <;> simp [h]
    · rintro (h | h | h) <;> simp [h]

theorem mem_arrange {α : Type} (x : α) : ∀ (l : List α) (n : Nat), x ∈ arrange n l ↔ x ∈ l
  | [], n => by simp [arrange]
  | [a], n => by simp [arrange]
  | a :: b :: l, n => by
    simp only [arrange, mem_insertAt, mem_arrange x (b :: l), List.mem_cons]

theorem State.mem_inOrder {α : Type} (s : State) (l : List α) (x : α) : x ∈ (s.inOrder l).1 ↔ x ∈ l := by
  unfold State.inOrder
  split
  · rfl
  · exact mem_arrange x l _

theorem State.inOrder_monitor {α : Type} (s : State) (l : List α) (i : MonitorId) :
    (s.inOrder l).2.monitor i = s.monitor i := by
  unfold State.inOrder
  split <;> rfl

theorem State.mem_stale (s : State) (i : MonitorId) :
    i ∈ s.stale ↔ (s.monitor i).settings.enabled = true ∧ (s.monitor i).isMatch ≠ s.matchOf (s.monitor i).settings := by
  simp [State.stale, allMonitors]

theorem State.mem_rematched (s t : State) (i : MonitorId) :
    i ∈ s.rematched t ↔ (s.monitor i).settings.enabled = true ∧
      s.matchOf (s.monitor i).settings ≠ t.matchOf (s.monitor i).settings := by
  simp [State.rematched, allMonitors]

theorem Monitor.takeMatch_settings (m : Monitor) (t : Time) (v : Bool) : (m.takeMatch t v).1.settings = m.settings := by
  unfold Monitor.takeMatch Monitor.matchBegins Monitor.matchEnds
  repeat' split
  all_goals rfl

/-- Nothing in a settling changes the settings of a monitor. -/
theorem settingsKept (f : MonitorId → MonitorSettings) : KeptByBlocks fun t => ∀ i, (t.monitor i).settings = f i where
  push := fun _ _ _ h => h
  ready := fun _ _ h => h
  outputs := fun _ _ h => h
  counted := fun _ _ h => h
  filtered := fun _ _ h => h
  offered := fun _ _ _ _ h => h
  waited := fun _ _ _ h => h
  free := fun _ _ h => h
  inbox := fun _ _ _ h => h
  emptied := fun _ _ h => h
  muted := fun _ _ h => h
  abandoned := fun _ _ _ _ _ h => h
  tookMatch := fun t i u v _ h j => by
    rw [State.monitor_withMonitor]
    split
    · rename_i e; subst e; rw [Monitor.takeMatch_settings]; exact h _
    · exact h j
  conditions := fun _ _ h => h

/-- A change taken keeps what each elementary update of a settling keeps. -/
theorem State.takeChange_keeps (k : KeptByBlocks P) (s : State) (i : MonitorId)
    (he : (s.monitor i).settings.enabled = true) (h : P s) : P (s.takeChange i) :=
  State.turnMonitor_keeps k _ _ _ _ (k.tookMatch s i s.time _ he h)

/-- Settling keeps what each of its elementary updates keeps. -/
theorem State.settleFor_keeps (k : KeptByBlocks P) : ∀ (n : Nat) (due : List MonitorId) (s : State),
    (∀ i ∈ due, (s.monitor i).settings.enabled = true) → P s → P (State.settleFor n due s)
  | 0, _, _, _, h => h
  | n + 1, due, s, hd, h => by
    unfold State.settleFor
    simp only
    split
    · exact h
    · rename_i i l e
      have hin : ∀ j, j = i ∨ j ∈ l → (s.monitor j).settings.enabled = true := fun j hj =>
        hd j ((State.mem_inOrder s due j).1 (by rw [e]; exact List.mem_cons.2 hj))
      have hi : ((s.inOrder due).2.monitor i).settings.enabled = true := by
        rw [State.inOrder_monitor]; exact hin i (Or.inl rfl)
      have hs : ∀ j, (((s.inOrder due).2.takeChange i).monitor j).settings = (s.monitor j).settings :=
        State.takeChange_keeps (settingsKept fun j => (s.monitor j).settings) _ i hi
          fun j => by rw [State.inOrder_monitor]
      refine State.settleFor_keeps k n _ _ (fun j hj => ?_)
        (State.takeChange_keeps k _ i hi (State.inOrder_keeps k s due h))
      rw [hs]
      rcases List.mem_append.1 hj with hj | hj
      · exact hin j (Or.inr hj)
      · exact ((s.mem_rematched _ j).1 hj).1

theorem State.settle_keeps (k : KeptByBlocks P) (s : State) (h : P s) : P s.settle :=
  State.settleFor_keeps k 16 s.stale s (fun i hi => ((s.mem_stale i).1 hi).1) h

end Sys2Proof.Machine
end

