-- ==== Sys2Proof/Laws/Settle.lean ====
section
/-!
SUPPORT. Settling reaches its end: after it, every monitor's match is what its condition gives (R157, log 20). Events,
mutes and lockouts can only raise occupancies and change nothing else a condition reads, so each monitor takes at most
two changes.
-/

namespace Sys2Proof.Machine

/-! ## Occupancies along the event path -/

theorem evictYoungest_length : ∀ (l : List EventRecord) (x : List EventRecord × Nat),
    evictYoungest l = some x → x.1.length + 1 = l.length
  | [], x, h => by simp [evictYoungest] at h
  | r :: l, x, h => by
    unfold evictYoungest at h
    split at h
    · rename_i y e
      have := evictYoungest_length l y e
      simp only [Option.some.injEq] at h
      subst h
      simpa using this
    · split at h
      · simp at h
      · split at h <;> simp only [Option.some.injEq] at h <;> subst h <;> simp

theorem EventStore.occ_withQueue (st : EventStore) (q r : LaneId) (x : LaneQueue) :
    (st.withQueue q x).occ r = if r = q then x.events.length else st.occ r := by
  unfold EventStore.occ EventStore.withQueue
  rw [Lanes.get_set]
  split <;> rfl

/-- An offered event never lowers an occupancy (R3). -/
theorem EventStore.offer_occ_le (st : EventStore) (q r : LaneId) (e : Event) (b : Bool) :
    st.occ r ≤ (st.offer q e b).1.occ r := by
  unfold EventStore.offer
  simp only
  split <;> rw [EventStore.occ_withQueue] <;> split <;> rename_i h <;> try exact Nat.le_refl _
  all_goals subst h
  · simp [LaneQueue.admitEvent, EventStore.occ]
  · simp [LaneQueue.admitEvent, EventStore.occ]
  · simp only [LaneQueue.admitEvent, LaneQueue.evict, EventStore.occ]
    split
    · rename_i y ey
      have := evictYoungest_length _ _ ey
      simp; omega
    · simp
  · simp [LaneQueue.refuse, EventStore.occ]

/-! ## What settling leaves of the conditions -/

/-- What the conditions of t can differ in from those of s: occupancies, which have only risen. -/
structure Grown (s t : State) : Prop where
  isOpen : ∀ q, (t.drawers.get q).isOpen = (s.drawers.get q).isOpen
  fault : ∀ q, (t.drawers.get q).fault = (s.drawers.get q).fault
  keylock : ∀ q, (t.keyboards.get q).keylock = (s.keyboards.get q).keylock
  scanners : t.scanners = s.scanners
  meters : t.meters = s.meters
  occ : ∀ q, s.store.occ q ≤ t.store.occ q
  settings : ∀ i, (t.monitor i).settings = (s.monitor i).settings

theorem Grown.refl (s : State) : Grown s s :=
  ⟨fun _ => rfl, fun _ => rfl, fun _ => rfl, rfl, rfl, fun _ => Nat.le_refl _, fun _ => rfl⟩

theorem Monitor.takeMatch_isMatch (m : Monitor) (t : Time) (v : Bool) : (m.takeMatch t v).1.isMatch = v := by
  unfold Monitor.takeMatch Monitor.matchBegins Monitor.matchEnds
  repeat' split
  all_goals simp_all

theorem EventStore.occ_setWait (st : EventStore) (q r : LaneId) (w : Option Wait) :
    (st.setWait q w).occ r = st.occ r := by
  unfold EventStore.setWait
  rw [EventStore.occ_withQueue]
  split
  · rename_i h; subst h; rfl
  · rfl

theorem EventStore.occ_countFiltered (st : EventStore) (q r : LaneId) : (st.countFiltered q).occ r = st.occ r := by
  unfold EventStore.countFiltered
  simp only
  rw [EventStore.occ_withQueue]
  split
  · rename_i h; subst h; rfl
  · rfl

theorem Keyboard.muteStart_keylock (k : Keyboard) (t : Time) : (k.muteStart t).1.keylock = k.keylock := rfl

theorem Grown.events (s : State) : KeptByEvents (Grown s) where
  push := fun _ _ _ h => h.rec fun a b c d e f g => ⟨a, b, c, d, e, f, g⟩
  ready := fun _ _ h => h.rec fun a b c d e f g => ⟨a, b, c, d, e, f, g⟩
  outputs := fun _ _ h => h.rec fun a b c d e f g => ⟨a, b, c, d, e, f, g⟩
  counted := fun _ _ h => h.rec fun a b c d e f g => ⟨a, b, c, d, e, f, g⟩
  filtered := fun t q h =>
    ⟨h.isOpen, h.fault, h.keylock, h.scanners, h.meters,
      fun r => by simpa [EventStore.occ_countFiltered] using h.occ r, h.settings⟩
  offered := fun t q e b h =>
    ⟨h.isOpen, h.fault, h.keylock, h.scanners, h.meters,
      fun r => Nat.le_trans (h.occ r) (EventStore.offer_occ_le _ _ _ _ _), h.settings⟩
  waited := fun t q w h =>
    ⟨h.isOpen, h.fault, h.keylock, h.scanners, h.meters,
      fun r => by simpa [EventStore.occ_setWait] using h.occ r, h.settings⟩

theorem Grown.blocks (s : State) : KeptByBlocks (Grown s) where
  toKeptByEvents := Grown.events s
  free := fun _ _ h => h.rec fun a b c d e f g => ⟨a, b, c, d, e, f, g⟩
  inbox := fun _ _ _ h => h.rec fun a b c d e f g => ⟨a, b, c, d, e, f, g⟩
  emptied := fun _ _ h => h.rec fun a b c d e f g => ⟨a, b, c, d, e, f, g⟩
  muted := fun t q h =>
    ⟨h.isOpen, h.fault,
      fun r => by
        rw [State.withKeyboard_keyboards, Lanes.get_set]
        split
        · rename_i e; subst e; exact h.keylock _
        · exact h.keylock r,
      h.scanners, h.meters, h.occ, h.settings⟩
  abandoned := fun t q u r hq h =>
    ⟨fun x => by
        rw [State.withDrawer_drawers, Lanes.get_set]
        split
        · rename_i e; subst e
          rw [← h.isOpen x]
          unfold Drawer.isQueued at hq
          simp only [Drawer.abandon, Drawer.isOpen]
          split at hq <;> simp_all
        · exact h.isOpen x,
      fun x => by
        rw [State.withDrawer_drawers, Lanes.get_set]
        split
        · rename_i e; subst e; exact h.fault _
        · exact h.fault x,
      h.keylock, h.scanners, h.meters, h.occ, h.settings⟩
  tookMatch := fun t i u v _ h =>
    ⟨h.isOpen, h.fault, h.keylock, h.scanners, h.meters, h.occ,
      fun j => by
        rw [State.monitor_withMonitor]
        split
        · rename_i e; subst e; rw [Monitor.takeMatch_settings]; exact h.settings _
        · exact h.settings j⟩
  conditions := fun _ _ h => h.rec fun a b c d e f g => ⟨a, b, c, d, e, f, g⟩

/-- A condition that can still change while settling: an occupancy not yet reached. -/
def State.canRise (s : State) (m : MonitorSettings) : Bool :=
  m.condition == .queueAtLeast && !s.conditionValue m

theorem Grown.conditionValue {s t : State} (h : Grown s t) (m : MonitorSettings) :
    t.conditionValue m = s.conditionValue m ∨ (s.canRise m = true ∧ t.canRise m = false) := by
  cases hc : m.condition with
  | drawerOpen => left; simp [State.conditionValue, hc, h.isOpen]
  | drawerFault => left; simp [State.conditionValue, hc, h.fault]
  | keylockIs => left; simp [State.conditionValue, hc, h.keylock]
  | scannerNotLocked => left; simp [State.conditionValue, hc, h.scanners]
  | pacing => left; simp [State.conditionValue, hc, h.meters]
  | queueAtLeast =>
    by_cases hs : m.queueParam ≤ s.store.occ m.sourceLane
    · left
      have := Nat.le_trans hs (h.occ m.sourceLane)
      simp [State.conditionValue, hc, hs, this]
    · by_cases ht : m.queueParam ≤ t.store.occ m.sourceLane
      · right
        simp [State.canRise, State.conditionValue, hc, hs, ht]
      · left
        simp [State.conditionValue, hc, hs, ht]

/-- The conditions that can still change while settling, one for each monitor that watches one. -/
def State.risesLeft (s : State) : Nat :=
  (allMonitors.map fun i => if s.canRise (s.monitor i).settings then 1 else 0).sum

theorem sum_map_le {α : Type} {f g : α → Nat} : ∀ {l : List α}, (∀ a ∈ l, f a ≤ g a) → (l.map f).sum ≤ (l.map g).sum
  | [], _ => Nat.le_refl _
  | a :: l, h => by
    simp only [List.map_cons, List.sum_cons]
    exact Nat.add_le_add (h a List.mem_cons_self) (sum_map_le fun b hb => h b (List.mem_cons_of_mem _ hb))

/-- Effects handed on leave every monitor as it is. -/
theorem State.handEffect_monitors (s : State) (x : (LaneId × Effect) × Bool) (l : Vector Monitor 8)
    (h : s.interlocks.monitors = l) : (s.handEffect x).interlocks.monitors = l := by
  have k : KeptByEvents (fun t => t.interlocks.monitors = l) :=
    ⟨fun _ _ _ h => h, fun _ _ h => h, fun _ _ h => h, fun _ _ h => h, fun _ _ h => h, fun _ _ _ _ h => h,
      fun _ _ _ h => h⟩
  have kp : ∀ (q : LaneId) (e : List LaneEffect) (t : State), t.interlocks.monitors = l →
      (t.perform q e).interlocks.monitors = l := fun q e t ht =>
    List.foldl_keeps (P := fun t => t.interlocks.monitors = l) (f := State.performOne q) (fun t e ht => by
      cases e with
      | produce u b => exact State.produce_keeps k t q u b ht
      | handOn x => exact ht
      | emptyRecent => exact ht) e t ht
  unfold State.handEffect
  split
  · split
    · exact kp _ _ _ h
    · exact h
  · exact h
  · split
    · exact kp _ _ _ h
    · exact h
  · exact h
  · exact h
  · exact h

theorem State.refreshEffects_monitors (s : State) : s.refreshEffects.interlocks.monitors = s.interlocks.monitors := by
  refine List.foldl_keeps (P := fun t => t.interlocks.monitors = s.interlocks.monitors)
    (fun t x h => State.handEffect_monitors t x _ h) _ _ ?_
  have h1 : ∀ (u : State) (c : List ((LaneId × Effect) × Bool)),
      (u.inOrder c).2.interlocks.monitors = u.interlocks.monitors := by
    intro u c
    unfold State.inOrder
    split <;> rfl
  rw [h1]
  exact State.resolveSignals_keeps (P := fun t => t.interlocks.monitors = s.interlocks.monitors)
    ⟨fun _ _ _ h => h, fun _ _ h => h, fun _ _ h => h, fun _ _ h => h, fun _ _ h => h, fun _ _ _ _ h => h,
      fun _ _ _ h => h⟩ _ rfl

theorem State.produce_monitors (s : State) (q : LaneId) (t : Time) (b : EventBody) :
    (s.produce q t b).interlocks.monitors = s.interlocks.monitors :=
  State.produce_keeps (P := fun t => t.interlocks.monitors = s.interlocks.monitors)
    ⟨fun _ _ _ h => h, fun _ _ h => h, fun _ _ h => h, fun _ _ h => h, fun _ _ h => h, fun _ _ _ _ h => h,
      fun _ _ _ h => h⟩ s q t b rfl

/-- A transition changes its own monitor and no other. -/
theorem State.turnMonitor_monitors (s : State) (i : MonitorId) (t : Time) (r : Monitor × MonitorTurn) :
    (s.turnMonitor i t r).interlocks.monitors = (s.withMonitor i r.1).interlocks.monitors := by
  unfold State.turnMonitor
  simp only
  split
  · rfl
  · rw [State.refreshEffects_monitors, State.monitorEvent, State.produce_monitors]
  · rw [State.monitorEvent, State.produce_monitors, State.refreshEffects_monitors]

theorem State.monitor_congr {s t : State} (h : t.interlocks.monitors = s.interlocks.monitors) (i : MonitorId) :
    t.monitor i = s.monitor i := by
  unfold State.monitor
  rw [h]

/-- A settling takes a change of monitor i first: what the state can then differ in. -/
theorem Grown.takeChange (s : State) (i : MonitorId) (he : (s.monitor i).settings.enabled = true) :
    Grown s (s.takeChange i) :=
  State.takeChange_keeps (Grown.blocks s) s i he (Grown.refl s)

/-- A change taken turns the monitor's match over and leaves the others' matches as they are. -/
theorem State.takeChange_isMatch (s : State) (i j : MonitorId) :
    ((s.takeChange i).monitor j).isMatch = if j = i then !(s.monitor i).isMatch else (s.monitor j).isMatch := by
  unfold State.takeChange
  rw [State.monitor_congr (State.turnMonitor_monitors s i _ _), State.monitor_withMonitor]
  split
  · exact Monitor.takeMatch_isMatch _ _ _
  · rfl

/-- Every change that a turn brings about is the rise of an occupancy not yet reached, and there is one less of them. -/
theorem Grown.rematched_rises {s t : State} (h : Grown s t) : (s.rematched t).length + t.risesLeft ≤ s.risesLeft := by
  have key : ∀ l : List MonitorId,
      (l.filter fun i => (s.monitor i).settings.enabled &&
        s.matchOf (s.monitor i).settings != t.matchOf (s.monitor i).settings).length +
        (l.map fun i => if t.canRise (t.monitor i).settings then 1 else 0).sum ≤
      (l.map fun i => if s.canRise (s.monitor i).settings then 1 else 0).sum := by
    intro l
    induction l with
    | nil => exact Nat.le_refl _
    | cons i l ih =>
      simp only [List.map_cons, List.sum_cons, List.filter_cons, h.settings]
      simp only [h.settings] at ih
      rcases h.conditionValue (s.monitor i).settings with e | ⟨e, e'⟩
      · have hm : t.matchOf (s.monitor i).settings = s.matchOf (s.monitor i).settings := by
          simp [State.matchOf, e]
        have hr : t.canRise (s.monitor i).settings = s.canRise (s.monitor i).settings := by
          simp [State.canRise, e]
        rw [hm, hr]
        simp only [bne_self_eq_false, Bool.and_false, Bool.false_eq_true, if_false]
        omega
      · rw [e, e']
        simp only [Bool.false_eq_true, if_false, if_true]
        split <;> (try simp only [List.length_cons]) <;> omega
  exact key allMonitors

/-- The changes due are those that lead each enabled monitor from its match to what its condition gives, and only
enabled monitors have any. -/
def State.Due (s : State) (due : List MonitorId) : Prop :=
  (∀ i ∈ due, (s.monitor i).settings.enabled = true) ∧
    ∀ i, (s.monitor i).settings.enabled = true →
      (due.count i % 2 = 1 ↔ (s.monitor i).isMatch ≠ s.matchOf (s.monitor i).settings)

theorem nodup_count : ∀ {l : List MonitorId}, l.Nodup → ∀ i, l.count i = if i ∈ l then 1 else 0
  | [], _, _ => rfl
  | a :: l, h, i => by
    have hc := List.nodup_cons.1 h
    rw [List.count_cons, nodup_count hc.2 i]
    by_cases e : a = i
    · subst e
      simp [hc.1]
    · have : i ≠ a := fun x => e x.symm
      simp [e, this]

theorem State.nodup_stale (s : State) : s.stale.Nodup :=
  List.Pairwise.filter _ (by decide : allMonitors.Nodup)

theorem State.nodup_rematched (s t : State) : (s.rematched t).Nodup :=
  List.Pairwise.filter _ (by decide : allMonitors.Nodup)

theorem State.due_stale (s : State) : s.Due s.stale := by
  refine ⟨fun i hi => ((s.mem_stale i).1 hi).1, fun i he => ?_⟩
  rw [nodup_count s.nodup_stale]
  have := s.mem_stale i
  by_cases hi : i ∈ s.stale
  · simp [hi, (this.1 hi).2]
  · have : ¬ (s.monitor i).isMatch ≠ s.matchOf (s.monitor i).settings := fun h => hi (this.2 ⟨he, h⟩)
    simp only [if_neg hi]
    simp only [ne_eq, Decidable.not_not] at this
    simp [this]

/-- Where no change is due, no monitor is behind its condition. -/
theorem State.Due.stale_nil {s : State} (h : s.Due []) : s.stale = [] := by
  refine List.eq_nil_iff_forall_not_mem.2 fun i hi => ?_
  have hi := (s.mem_stale i).1 hi
  have := (h.2 i hi.1).2 hi.2
  simp at this

theorem perm_insertAt {α : Type} (a : α) : ∀ (n : Nat) (l : List α), (insertAt n a l).Perm (a :: l)
  | 0, _ => List.Perm.refl _
  | _ + 1, [] => List.Perm.refl _
  | n + 1, y :: l => ((perm_insertAt a n l).cons y).trans (List.Perm.swap a y l)

theorem perm_arrange {α : Type} : ∀ (l : List α) (n : Nat), (arrange n l).Perm l
  | [], _ => List.Perm.refl _
  | [_], _ => List.Perm.refl _
  | a :: b :: l, _ => (perm_insertAt a _ _).trans ((perm_arrange (b :: l) _).cons a)

/-- A free order is an order of the things there are. -/
theorem State.perm_inOrder {α : Type} (s : State) (l : List α) : (s.inOrder l).1.Perm l := by
  unfold State.inOrder
  split
  · exact List.Perm.refl _
  · exact perm_arrange l _

/-- A turn of a settling: the changes due to it lead to the changes due after it. -/
theorem State.Due.turn {s : State} {due rest : List MonitorId} {i : MonitorId} (h : s.Due due)
    (hp : due.Perm (i :: rest)) : (s.takeChange i).Due (rest ++ s.rematched (s.takeChange i)) := by
  have hi : (s.monitor i).settings.enabled = true := h.1 i (hp.mem_iff.2 List.mem_cons_self)
  have hg := Grown.takeChange s i hi
  refine ⟨fun j hj => ?_, fun j hj => ?_⟩
  · rw [hg.settings]
    rcases List.mem_append.1 hj with hj | hj
    · exact h.1 j (hp.mem_iff.2 (List.mem_cons_of_mem _ hj))
    · exact ((s.mem_rematched _ j).1 hj).1
  · rw [hg.settings] at hj ⊢
    have hd := h.2 j hj
    rw [hp.count_eq, List.count_cons] at hd
    rw [List.count_append, nodup_count (s.nodup_rematched _),
      State.takeChange_isMatch]
    have hm := s.mem_rematched (s.takeChange i) j
    have hcases : (if j ∈ s.rematched (s.takeChange i) then 1 else 0) =
        if s.matchOf (s.monitor j).settings ≠ (s.takeChange i).matchOf (s.monitor j).settings then 1 else 0 := by
      by_cases hx : s.matchOf (s.monitor j).settings ≠ (s.takeChange i).matchOf (s.monitor j).settings
      · rw [if_pos hx, if_pos (hm.2 ⟨hj, hx⟩)]
      · rw [if_neg hx, if_neg fun hy => hx (hm.1 hy).2]
    rw [hcases]
    generalize s.matchOf (s.monitor j).settings = a at hd ⊢
    generalize (s.takeChange i).matchOf (s.monitor j).settings = b at hd ⊢
    by_cases hji : j = i
    · subst hji
      simp only [if_true, beq_self_eq_true] at hd ⊢
      generalize (s.monitor j).isMatch = m at hd ⊢
      cases m <;> cases a <;> cases b <;> simp at hd ⊢ <;> omega
    · have hij : (i == j) = false := by simpa using fun e => hji e.symm
      simp only [if_neg hji, hij, Bool.false_eq_true, if_false, Nat.add_zero] at hd ⊢
      generalize (s.monitor j).isMatch = m at hd ⊢
      cases m <;> cases a <;> cases b <;> simp at hd ⊢ <;> omega

/-- The reading of a free order leaves what is due as it is. -/
theorem State.Due.free {s : State} {due : List MonitorId} {α : Type} (h : s.Due due) (l : List α) :
    (s.inOrder l).2.Due due := by
  unfold State.inOrder
  split
  · exact h
  · exact h

/-- A settling that is given the changes due, and turns enough, ends with none behind its condition. -/
theorem State.settleFor_stale : ∀ (n : Nat) (due : List MonitorId) (s : State), s.Due due →
    due.length + s.risesLeft ≤ n → (State.settleFor n due s).stale = []
  | 0, due, s, h, hn => by
    have : due = [] := List.length_eq_zero_iff.1 (by omega)
    subst this
    exact h.stale_nil
  | n + 1, due, s, h, hn => by
    unfold State.settleFor
    simp only
    have hp := s.perm_inOrder due
    split
    · rename_i e
      rw [e] at hp
      have := List.nil_perm.1 hp
      subst this
      exact h.stale_nil
    · rename_i i rest e
      rw [e] at hp
      have hr : s.rematched ((s.inOrder due).2.takeChange i) =
          (s.inOrder due).2.rematched ((s.inOrder due).2.takeChange i) := by
        unfold State.inOrder
        split <;> rfl
      have hl : (s.inOrder due).2.risesLeft = s.risesLeft := by
        unfold State.inOrder
        split <;> rfl
      have hf := h.free due
      rw [hr]
      refine State.settleFor_stale n _ _ (hf.turn hp.symm) ?_
      have hg := Grown.takeChange (s.inOrder due).2 i (hf.1 i (hp.mem_iff.1 List.mem_cons_self))
      have := hg.rematched_rises
      have hlen := hp.length_eq
      rw [List.length_cons] at hlen
      rw [List.length_append]
      omega

theorem State.due_le (s : State) : s.stale.length + s.risesLeft ≤ 16 := by
  have h1 : s.stale.length ≤ 8 := Nat.le_trans (List.length_filter_le _ _) (by decide)
  have h2 : s.risesLeft ≤ 8 :=
    Nat.le_trans (sum_map_le (g := fun _ => 1) fun i _ => by split <;> decide) (by decide)
  omega

/-- After settling, no enabled monitor's match differs from what its condition gives (R157). -/
theorem State.settle_stale (s : State) : s.settle.stale = [] :=
  State.settleFor_stale 16 s.stale s s.due_stale s.due_le

/-- Where nothing is stale, settling changes nothing. -/
theorem State.settle_of_stale_nil (s : State) (h : s.stale = []) : s.settle = s := by
  unfold State.settle State.settleFor
  simp [h, State.inOrder]

end Sys2Proof.Machine
end

