-- ==== Sys2Proof/Laws/Commands.lean ====
section
/-!
SUPPORT. What a command can do to the state, said once: a property that each elementary update of every block keeps is
kept by every command and by every step. An invariant is proved by giving these updates (KeptByCommands), each a
statement about one block.
-/

namespace Sys2Proof.Machine

/-- What the commands can do to the state beside the event path and settling: each of these keeps P. -/
structure KeptByCommands (P : State → Prop) : Prop extends KeptByBlocks P where
  ticked : ∀ (s : State), P s → P s.tick
  queued : ∀ (s : State) l, P s → P { s with pending := l }
  -- Link Controller
  received : ∀ (s : State) x, P s → P { s with link := { s.link with receiver := x } }
  counted' : ∀ (s : State) c, P s → P { s with link := { s.link with counters := c } }
  offeredFrame : ∀ (s : State) f, P s → P (s.offerFrame f)
  popped : ∀ (s : State) f l, s.link.buffer = f :: l → P s → P { s with link := { s.link with buffer := l } }
  sent : ∀ (s : State) m l, s.link.transmit = m :: l → P s →
    P { s with link := { s.link with transmit := l, hostLine := m.bytes } }
  cancelledBuffer : ∀ (s : State) m, m.origin = .taken → P s →
    P { s with
          link :=
            { s.link with
              receiver := .off
              buffer := []
              transmit := s.link.transmit ++ m :: s.link.buffer.map s.cancelledReply
              resetting := true } }
  reset : ∀ (s : State) c x h, P s →
    P { (s.partReset c x) with link := { (s.partReset c x).link with hostLine := h } }
  -- Event Store
  fetched : ∀ (s : State) q n, P s → P (s.withQueue q ((s.store.queues.get q).fetched n))
  flushed : ∀ (s : State) q, P s → P (s.withQueue q (s.store.queues.get q).flush)
  resettled : ∀ (s : State) (a : AdmissionSettings), s.store.fits a.clamped.reserves = true → P s →
    P { s with store := s.store.withSettings a.clamped }
  -- Classification Table
  ruled : ∀ (s : State) n r, P s → P { s with table := s.table.withRule n r }
  profiled : ∀ (s : State) n p, P s → P { s with table := s.table.withProfile n p }
  -- Key Matrix Unit
  sampled : ∀ (s : State) q m raw, (s.modes.get q).current.keyboard = true → P s → P (s.withKeyboard q ((s.keyboards.get q).sample s.time m raw).1)
  repeated : ∀ (s : State) q, P s → P (s.withKeyboard q ((s.keyboards.get q).typematicTest s.time).1)
  firstSampled : ∀ (s : State) q raw, P s → P (s.withKeyboard q ((s.keyboards.get q).firstSampleTaken s.time raw))
  keylocked : ∀ (s : State) q i, P s → P (s.withKeyboard q ((s.keyboards.get q).keylockSample s.time i).1)
  keyFaulted : ∀ (s : State) q, P s → P (s.withKeyboard q ((s.keyboards.get q).keylockFaultTest s.time).1)
  keysDisabled : ∀ (s : State) q, P s →
    P ((s.withEnable q .keyboard false).withKeyboard q ((s.keyboards.get q).disable s.time).1)
  keysEnabled : ∀ (s : State) q, P s → P ((s.withEnable q .keyboard true).withKeyboard q (s.keyboards.get q).enable)
  restarted : ∀ (s : State) q, P s → P (s.withKeyboard q (s.keyboards.get q).restart)
  keysWritten : ∀ (s : State) q n l, P s → P (s.withKeyboard q ((s.keyboards.get q).writeEntries n l))
  keysConfigured : ∀ (s : State) q (g : KeyboardSettings), P s →
    P (s.withKeyboard q ((s.keyboards.get q).configure s.time (s.modes.get q).current.keyboard g.clamped).1)
  -- Scanner Ports
  tookByte : ∀ (s : State) q p i b, P s → P (s.withPort q p ((s.port q p).takeByte s.time p i b).1)
  broke : ∀ (s : State) q p, P s → P (s.withPort q p ((s.port q p).break s.time p).1)
  gapped : ∀ (s : State) q p, P s → P (s.withPort q p ((s.port q p).gapExpiry s.time p).1)
  windowed : ∀ (s : State) q p, P s → P (s.withPort q p ((s.port q p).windowBoundary s.time))
  checkFailed : ∀ (s : State) q p, P s → P (s.withPort q p ((s.port q p).checkFailure s.time p).1)
  resynced : ∀ (s : State) q p, P s → P (s.withPort q p ((s.port q p).resync s.time p).1)
  portReset : ∀ (s : State) q p, P s → P (s.withPort q p ((s.port q p).laneReset s.time p).1)
  portDisabled : ∀ (s : State) q p, P s →
    P ((s.withEnable q (.scan p) false).withPort q p ((s.port q p).disable s.time p).1)
  portEnabled : ∀ (s : State) q p, P s → P ((s.withEnable q (.scan p) true).withPort q p (s.port q p).enable)
  lined : ∀ (s : State) q p (l : LineSettings), P s →
    P (s.withPort q p ((s.port q p).configure s.time p (LineSettings.clamped l)).1)
  mapped : ∀ (s : State) q p m, P s → P (s.withPort q p { s.port q p with idMap := m })
  portCounted : ∀ (s : State) q p f, P s → P (s.countPort q p f)
  -- Symbol Checker
  remembered : ∀ (s : State) q c d, P s → P (s.withChecker q ((s.checkers.get q).remember s.time c d))
  held : ∀ (s : State) q n, P s → P (s.withChecker q { s.checkers.get q with holdTime := n, recent := [] })
  checked : ∀ (s : State) q p x, P s →
    P (s.withChecker q { s.checkers.get q with checks := (s.checkers.get q).checks.set p x })
  -- Scan Meters
  graded : ∀ (s : State) q p, P s → P (s.withMeter q p ((s.meter q p).graded s.time))
  paced : ∀ (s : State) q p g, P s → P (s.withMeter q p ((s.meter q p).paced g))
  released : ∀ (s : State) q p t, P s → P (s.withMeter q p ((s.meter q p).released t))
  metered : ∀ (s : State) q p a b c d e, P s → P (s.withMeter q p ((s.meter q p).configured s.time a b c d e))
  -- Drawer Controller and arbiter
  granted : ∀ (s : State), P s → P s.grantOne
  enqueued : ∀ (s : State) q, (s.drawers.get q).state = .closed → P s →
    P ({ s with arbiter := s.arbiter.join q }.withDrawer q ((s.drawers.get q).enqueue s.time))
  pulsed : ∀ (s : State) q e, (s.drawers.get q).pulseDue s.time = some e → P s →
    P ({ s with arbiter := s.arbiter.release q }.withDrawer q ((s.drawers.get q).pulseEnded e))
  cooled : ∀ (s : State) q, P s → P (s.withDrawer q { s.drawers.get q with cooldownEnd := none })
  drawerSwitched : ∀ (s : State) q v, P s → P (s.withEnable q .drawer v)
  sensed : ∀ (s : State) q raw, ((s.drawers.get q).sampleSense s.time raw).2 = false → P s →
    P (s.withDrawer q ((s.drawers.get q).sampleSense s.time raw).1)
  openedDrawer : ∀ (s : State) q, ((s.drawers.get q).sampleSense s.time true).2 = true → P s →
    P ({ s with arbiter := (s.arbiter.release q).withdraw q }.withDrawer q
      ((((s.drawers.get q).sampleSense s.time true).1.senseOpened s.time).1))
  closedDrawer : ∀ (s : State) q, ((s.drawers.get q).sampleSense s.time false).2 = true → P s →
    P (s.withDrawer q ((((s.drawers.get q).sampleSense s.time false).1.senseClosed s.time).1))
  confirmed : ∀ (s : State) q, P s → P (s.withDrawer q ((s.drawers.get q).confirmExpired s.time).1)
  leftOpened : ∀ (s : State) q, P s → P (s.withDrawer q ((s.drawers.get q).leftOpenExpired s.time).1)
  drawerSet : ∀ (s : State) q g, P s → P (s.withDrawer q { s.drawers.get q with settings := g, fault := false })
  -- Interlock Monitors, outputs, modes
  ended : ∀ (s : State) i, (s.monitor i).state = .active → P s → P (s.withMonitor i { s.monitor i with state := .inactive })
  rewritten : ∀ (s : State) i g, P s → P (s.withMonitor i (Monitor.rewritten g))
  begun : ∀ (s : State) i g, s.monitor i = Monitor.rewritten g → g.enabled = true → P s →
    P (s.withMonitor i ((Monitor.rewritten g).matchBegins s.time).1)
  letGo : ∀ (s : State) i, (s.monitor i).state = .active → (s.monitor i).isMatch = false → P s →
    P (s.withMonitor i { s.monitor i with state := .inactive })
  qualified : ∀ (s : State) i t, (s.monitor i).qualifyExpiry = some t → P s →
    P (s.withMonitor i { s.monitor i with state := .active })
  patterned : ∀ (s : State) p, P s → P { s with patterns := p }
  moded : ∀ (s : State) q m, m.current = (s.modes.get q).current → P s → P { s with modes := s.modes.set q m }

variable {P : State → Prop}

/-! ## Requests -/

theorem State.answer_keeps (k : KeptByCommands P) (tag kind : Byte) (r : State × Answer) (h : P r.1) :
    P (State.answer tag kind r) := by
  unfold State.answer
  split
  · exact k.push _ _ (by simp [replyMessage]) h
  · exact h

theorem State.takeWith_keeps (k : KeptByCommands P) (s : State) (kind tag : Byte) (b : List Byte)
    (rule : Byte → List Byte → State → State × Answer) (hr : ∀ s, P s → P (rule tag b s).1) (h : P s) :
    P (s.takeWith kind tag b rule) := by
  unfold State.takeWith
  split
  · exact State.answer_keeps k _ _ _ h
  · exact State.answer_keeps k _ _ _ (hr s h)

/-- A rule keeps P. -/
def RuleKeeps (P : State → Prop) (rule : Byte → List Byte → State → State × Answer) : Prop :=
  ∀ tag b s, P s → P (rule tag b s).1

theorem laneRule_keeps {n : Nat} {f : LaneId → List Byte → State → State × Answer}
    (hf : ∀ q b s, P s → P (f q b s).1) : RuleKeeps P (laneRule n f) := by
  intro tag b s h
  unfold laneRule
  split
  · exact h
  · split
    · exact h
    · exact hf _ b s h

theorem portRule_keeps {n : Nat} {f : LaneId → PortId → List Byte → State → State × Answer}
    (hf : ∀ q p b s, P s → P (f q p b s).1) : RuleKeeps P (portRule n f) := by
  refine laneRule_keeps fun q b s h => ?_
  split
  · exact h
  · exact hf q _ b s h

theorem identify_keeps : RuleKeeps P identifyRule := by
  intro tag b s h; unfold identifyRule; split <;> exact h

theorem readTime_keeps : RuleKeeps P readTimeRule := by
  intro tag b s h; unfold readTimeRule; split <;> exact h

theorem resetPart_keeps (k : KeptByCommands P) : RuleKeeps P resetPartRule := by
  intro tag b s h
  unfold resetPartRule
  split
  · exact h
  · exact k.cancelledBuffer s _ rfl h

theorem readCounters_keeps : RuleKeeps P readCountersRule := by
  intro tag b s h
  unfold readCountersRule
  split
  · exact h
  · split <;> exact h

theorem clearCounters_keeps (hc : ∀ s x, P s → P (s.clearCounters x)) : RuleKeeps P clearCountersRule := by
  intro tag b s h
  unfold clearCountersRule
  split
  · exact h
  · split
    · exact List.foldl_keeps hc allScopes s h
    · split
      · exact h
      · exact hc s _ h

/-! ## Enables and modes -/

theorem State.grantAll_keeps (k : KeptByCommands P) (s : State) (h : P s) : P s.grantAll :=
  k.granted _ (k.granted s h)

theorem State.switchEnable_keeps (k : KeptByCommands P) (q : LaneId) (s : State) (x : Enable × Bool) (h : P s) :
    P (State.switchEnable q s x) := by
  refine State.settle_keeps k.toKeptByBlocks _ ?_
  unfold State.handEnable
  split
  · exact k.keysEnabled s q h
  · exact State.keyboardDoes_keeps k.toKeptByBlocks _ _ _ (k.keysDisabled s q h)
  · exact State.resolveInhibit_keeps k.toKeptByEvents _ _ _ (k.portEnabled s q _ h)
  · exact State.resolveInhibit_keeps k.toKeptByEvents _ _ _
      (State.portDoes_keeps k.toKeptByBlocks _ _ _ _ (k.portDisabled s q _ h))
  · exact State.grantAll_keeps k _ (k.drawerSwitched s q _ h)
  · exact k.drawerSwitched s q _ h

theorem State.setCurrent_keeps (k : KeptByCommands P) (s : State) (q : LaneId) (e : EnableSet) (h : P s) :
    P (s.setCurrent q e) :=
  List.foldl_keeps (fun s x h => State.switchEnable_keeps k q s x h) _ _ (State.inOrder_keeps k.toKeptByBlocks _ _ h)

theorem State.leaveAttendant_keeps (k : KeptByCommands P) (s : State) (q : LaneId) (r : LeaveReason) (h : P s) :
    P (s.leaveAttendant q r) :=
  State.setCurrent_keeps k _ q _
    (State.settle_keeps k.toKeptByBlocks _ (State.produce_keeps k.toKeptByEvents _ _ _ _ (k.moded s q _ rfl h)))

theorem State.enterAttendant_keeps (k : KeptByCommands P) (s : State) (q : LaneId) (h : P s) :
    P (s.enterAttendant q) :=
  State.setCurrent_keeps k _ q _
    (State.settle_keeps k.toKeptByBlocks _ (State.produce_keeps k.toKeptByEvents _ _ _ _ (k.moded s q _ rfl h)))

theorem resetLane_keeps (k : KeptByCommands P) : RuleKeeps P resetLaneRule := by
  refine laneRule_keeps fun q b s h => ?_
  have h0 : P ((s.resetLaneQueue q).resetLanePatterns q) :=
    State.settle_keeps k.toKeptByBlocks _ (State.updateSignal_keeps k.toKeptByEvents _ _ _ _
      (State.updateSignal_keeps k.toKeptByEvents _ _ _ _
        (State.cancelWait_keeps k.toKeptByEvents _ _ _ (k.flushed s q h))))
  have h2 : P (((s.resetLaneQueue q).resetLanePatterns q).resetLaneUnits q) :=
    k.restarted _ q (k.emptied _ q h0)
  have h3 : P ((((s.resetLaneQueue q).resetLanePatterns q).resetLaneUnits q).resetLanePorts q) :=
    List.foldl_keeps
      (fun s p h => State.settle_keeps k.toKeptByBlocks _
        (State.portDoes_keeps k.toKeptByBlocks s q p _ (k.portReset s q p h))) _ _
      (State.inOrder_keeps k.toKeptByBlocks _ _ h2)
  have h4 : P (((((s.resetLaneQueue q).resetLanePatterns q).resetLaneUnits q).resetLanePorts q).resetLaneDrawer q) := by
    unfold State.resetLaneDrawer
    split
    · exact State.settle_keeps k.toKeptByBlocks _ (State.abandonOpen_keeps k.toKeptByBlocks _ _ _ _ ‹_› h3)
    · exact h3
  show P ((((((s.resetLaneQueue q).resetLanePatterns q).resetLaneUnits q).resetLanePorts q).resetLaneDrawer q).resetLaneMode q)
  unfold State.resetLaneMode
  split
  · exact State.leaveAttendant_keeps k _ _ _ h4
  · exact h4

theorem setLaneEnables_keeps (k : KeptByCommands P) : RuleKeeps P setLaneEnablesRule := by
  refine laneRule_keeps fun q b s h => ?_
  split
  · show P (s.writeEnables q _ _).1
    unfold State.writeEnables
    simp only
    split
    · exact State.setCurrent_keeps k s q _ h
    · exact k.moded s q _ rfl h
    · exact k.moded s q _ rfl h
    · exact State.setCurrent_keeps k _ q _ (k.moded s q _ rfl h)
  · exact h

theorem readLaneStatus_keeps : RuleKeeps P readLaneStatusRule :=
  laneRule_keeps fun _ _ _ h => h

theorem enterAttendant_keeps (k : KeptByCommands P) : RuleKeeps P enterAttendantRule := by
  refine laneRule_keeps fun q b s h => ?_
  split
  · exact h
  · exact State.enterAttendant_keeps k s q h

theorem leaveAttendant_keeps (k : KeptByCommands P) : RuleKeeps P leaveAttendantRule := by
  refine laneRule_keeps fun q b s h => ?_
  split
  · exact State.leaveAttendant_keeps k s q _ h
  · exact h

/-! ## Keyboard, scan path, table, store -/

theorem setKeyboard_keeps (k : KeptByCommands P) : RuleKeeps P setKeyboardRule := by
  refine laneRule_keeps fun q b s h => ?_
  split
  · exact State.settle_keeps k.toKeptByBlocks _
      (State.keyboardDoes_keeps k.toKeptByBlocks _ _ _ (k.keysConfigured s q _ h))
  · exact h

theorem setKeys_keeps (k : KeptByCommands P) : RuleKeeps P setKeysRule := by
  intro tag b s h
  unfold setKeysRule
  repeat' split
  all_goals first | exact h | exact k.keysWritten s _ _ _ h

theorem setScannerLine_keeps (k : KeptByCommands P) : RuleKeeps P setScannerLineRule := by
  refine portRule_keeps fun q p b s h => ?_
  split
  · exact h
  · simp only
    split
    · exact h
    · exact State.settle_keeps k.toKeptByBlocks _
        (State.portDoes_keeps k.toKeptByBlocks _ _ _ _ (k.lined s q p _ h))

theorem setScannerIds_keeps (k : KeptByCommands P) : RuleKeeps P setScannerIdsRule := by
  refine portRule_keeps fun q p b s h => ?_
  split
  · exact h
  · exact k.mapped s q p _ h

theorem setScannerChecks_keeps (k : KeptByCommands P) : RuleKeeps P setScannerChecksRule := by
  refine portRule_keeps fun q p b s h => ?_
  split
  · exact h
  · exact k.checked s q p _ h

theorem setRepeat_keeps (k : KeptByCommands P) : RuleKeeps P setRepeatRule :=
  laneRule_keeps fun q _ s h => k.held s q _ h

theorem State.rewriteMeter_keeps (k : KeptByCommands P) (s : State) (q : LaneId) (p : PortId) (m : Meter)
    (h : P (s.withMeter q p m)) : P (s.rewriteMeter q p m) := by
  refine State.settle_keeps k.toKeptByBlocks _ ?_
  split
  · exact State.produce_keeps k.toKeptByEvents _ _ _ _ (State.resolveInhibit_keeps k.toKeptByEvents _ _ _ h)
  · exact State.resolveInhibit_keeps k.toKeptByEvents _ _ _ h

theorem setMeter_keeps (k : KeptByCommands P) : RuleKeeps P setMeterRule := by
  refine portRule_keeps fun q p b s h => ?_
  split
  · exact State.rewriteMeter_keeps k s q p _ (k.metered s q p _ _ _ _ _ h)
  · exact h

theorem resyncScanner_keeps (k : KeptByCommands P) : RuleKeeps P resyncScannerRule := by
  refine portRule_keeps fun q p b s h => ?_
  split
  · exact State.settle_keeps k.toKeptByBlocks _
      (State.portDoes_keeps k.toKeptByBlocks _ _ _ _ (k.resynced s q p h))
  · exact h

theorem writeRule_keeps (k : KeptByCommands P) : RuleKeeps P writeRuleRule := by
  intro tag b s h
  unfold writeRuleRule
  repeat' split
  all_goals first | exact h | exact k.ruled s _ _ h

theorem readRule_keeps : RuleKeeps P readRuleRule := by
  intro tag b s h
  unfold readRuleRule
  repeat' split
  all_goals exact h

theorem clearRule_keeps (k : KeptByCommands P) : RuleKeeps P clearRuleRule := by
  intro tag b s h
  unfold clearRuleRule
  repeat' split
  all_goals first | exact h | exact k.ruled s _ _ h

theorem setProfile_keeps (k : KeptByCommands P) : RuleKeeps P setProfileRule := by
  intro tag b s h
  unfold setProfileRule
  repeat' split
  all_goals first | exact h | exact k.profiled s _ _ h

theorem setAdmission_keeps (k : KeptByCommands P) : RuleKeeps P setAdmissionRule := by
  intro tag b s h
  unfold setAdmissionRule
  simp only
  split
  · exact h
  · split
    · exact k.resettled s _ ‹_› h
    · exact h

theorem fetch_keeps (k : KeptByCommands P) : RuleKeeps P fetchRule :=
  laneRule_keeps fun q _ s h => State.settle_keeps k.toKeptByBlocks _ (k.fetched s q _ h)

theorem flush_keeps (k : KeptByCommands P) : RuleKeeps P flushRule :=
  laneRule_keeps fun q _ s h => State.settle_keeps k.toKeptByBlocks _ (k.flushed s q h)

theorem await_keeps (k : KeptByCommands P) : RuleKeeps P awaitRule := by
  intro tag b s h
  unfold awaitRule
  split
  · exact h
  · split
    · exact h
    · simp only
      repeat' split
      all_goals first | exact h | exact k.waited s _ _ h

theorem cancelAwait_keeps (k : KeptByCommands P) : RuleKeeps P cancelAwaitRule :=
  laneRule_keeps fun q _ s h => State.cancelWait_keeps k.toKeptByEvents s q _ h

/-! ## Drawers, monitors, outputs -/

theorem setDrawer_keeps (k : KeptByCommands P) : RuleKeeps P setDrawerRule :=
  laneRule_keeps fun q _ s h => State.settle_keeps k.toKeptByBlocks _ (k.drawerSet s q _ h)

theorem State.openRefusal_none (s : State) (q : LaneId) (r : Byte) (h : s.openRefusal q r = none) :
    (s.drawers.get q).state = .closed := by
  by_cases hc : (s.drawers.get q).state = .closed
  · exact hc
  · unfold State.openRefusal at h
    repeat' split at h
    all_goals simp_all

theorem openDrawer_keeps (k : KeptByCommands P) : RuleKeeps P openDrawerRule := by
  intro tag b s h
  unfold openDrawerRule
  split
  · exact h
  · split
    · exact h
    · split
      · exact h
      · exact State.grantAll_keeps k _ (k.enqueued s _ (State.openRefusal_none s _ _ ‹_›) h)

theorem State.endMonitor_keeps (k : KeptByCommands P) (s : State) (i : MonitorId) (b : Bool) (h : P s) :
    P (s.endMonitor i b) := by
  unfold State.endMonitor
  split
  · exact State.produce_keeps k.toKeptByEvents _ _ _ _ (k.ended s i ‹_› h)
  · exact h

theorem State.beginMonitor_keeps (k : KeptByCommands P) (s : State) (i : MonitorId) (g : MonitorSettings) (h : P s) :
    P (s.beginMonitor i g) := by
  have h1 := k.rewritten s i g h
  unfold State.beginMonitor
  simp only
  split
  · rename_i hm
    have he : g.enabled = true := by
      unfold State.matchOf at hm
      simp only [Bool.and_eq_true] at hm
      exact hm.1
    have h2 := k.begun _ i g (State.monitor_withMonitor_self s i _) he h1
    split
    · exact State.produce_keeps k.toKeptByEvents _ _ _ _ h2
    · exact h2
  · exact h1

theorem setInterlock_keeps (k : KeptByCommands P) : RuleKeeps P setInterlockRule := by
  intro tag b s h
  unfold setInterlockRule
  split
  · exact h
  · split
    · exact h
    · split
      · exact h
      · split
        · exact h
        · exact State.settle_keeps k.toKeptByBlocks _ (State.refreshEffects_keeps k.toKeptByBlocks _
            (State.beginMonitor_keeps k _ _ _ (State.endMonitor_keeps k s _ _ h)))

theorem releaseInterlock_keeps (k : KeptByCommands P) : RuleKeeps P releaseInterlockRule := by
  intro tag b s h
  unfold releaseInterlockRule
  split
  · exact h
  · split
    · exact h
    · simp only
      split
      · exact h
      · split
        · exact h
        · split
          · exact h
          · rename_i ha hm _
            exact State.settle_keeps k.toKeptByBlocks _ (State.turnMonitor_keeps k.toKeptByBlocks _ _ _ _
              (k.letGo s _ (by simpa using ha) (by simpa using hm) h))

theorem readInterlocks_keeps : RuleKeeps P readInterlocksRule := by
  intro tag b s h; unfold readInterlocksRule; split <;> exact h

theorem setOutput_keeps (k : KeptByCommands P) : RuleKeeps P setOutputRule := by
  refine laneRule_keeps fun q b s h => ?_
  split
  · exact h
  · split
    · exact h
    · exact State.updateSignal_keeps k.toKeptByEvents s q _ (fun x => { x.stop with host := _ }) h
  · split
    · exact h
    · exact State.resolveInhibit_keeps k.toKeptByEvents _ _ _ (k.outputs s _ h)

theorem setPattern_keeps (k : KeptByCommands P) : RuleKeeps P setPatternRule := by
  intro tag b s h
  unfold setPatternRule
  repeat' split
  all_goals first | exact h | exact k.patterned s _ h

theorem unknownKind_keeps (k : KeptByCommands P) : RuleKeeps P unknownKindRule :=
  fun _ _ s h => k.counted' s _ h

/-- Every request's rule keeps P. -/
theorem requestRule_keeps (k : KeptByCommands P) (kind : Byte)
    (hc : kind = 0x22 → ∀ s x, P s → P (s.clearCounters x)) :
    RuleKeeps P ((requestRule kind).getD unknownKindRule) := by
  unfold requestRule
  split
  · exact identify_keeps
  · exact readTime_keeps
  · exact resetPart_keeps k
  · exact resetLane_keeps k
  · exact setLaneEnables_keeps k
  · exact readLaneStatus_keeps
  · exact setKeyboard_keeps k
  · exact setKeys_keeps k
  · exact setScannerLine_keeps k
  · exact setScannerIds_keeps k
  · exact setScannerChecks_keeps k
  · exact setRepeat_keeps k
  · exact setMeter_keeps k
  · exact resyncScanner_keeps k
  · exact writeRule_keeps k
  · exact readRule_keeps
  · exact clearRule_keeps k
  · exact setProfile_keeps k
  · exact setAdmission_keeps k
  · exact fetch_keeps k
  · exact flush_keeps k
  · exact await_keeps k
  · exact cancelAwait_keeps k
  · exact setDrawer_keeps k
  · exact openDrawer_keeps k
  · exact setInterlock_keeps k
  · exact releaseInterlock_keeps k
  · exact readInterlocks_keeps
  · exact setOutput_keeps k
  · exact setPattern_keeps k
  · exact enterAttendant_keeps k
  · exact leaveAttendant_keeps k
  · exact readCounters_keeps
  · exact clearCounters_keeps (hc (BitVec.eq_of_toNat_eq ‹_›))
  · exact unknownKind_keeps k

/-! ## Link events -/

theorem State.toHunting_keeps (k : KeptByCommands P) (s : State) (f : LinkCounters → LinkCounters) (h : P s) :
    P (s.toHunting f) :=
  k.received _ _ (k.counted' s (f s.link.counters) h)

theorem State.huntByte_keeps (k : KeptByCommands P) (s : State) (v : Byte) (h : P s) : P (s.huntByte v) := by
  unfold State.huntByte
  split
  · exact k.received s _ h
  · exact h

theorem State.frameByte_keeps (k : KeptByCommands P) (s : State) (l : List Byte) (v : Byte) (h : P s) :
    P (s.frameByte l v) := by
  unfold State.frameByte
  simp only
  split
  · exact State.toHunting_keeps k s _ h
  · split
    · exact k.received s _ h
    · split
      · exact k.offeredFrame _ _ (State.toHunting_keeps k s _ h)
      · exact State.toHunting_keeps k s _ h

theorem State.meterSymbol_keeps (k : KeptByCommands P) (s : State) (q : LaneId) (x : Symbol) (c : Byte) (h : P s) :
    P (s.meterSymbol q x c) := by
  have h0 : P ((s.countPort q x.port fun n => n.addGrade ((s.meter q x.port).gradeAt s.time)).withMeter q x.port
      ((s.meter q x.port).graded s.time)) := k.graded _ q x.port (k.portCounted s q x.port _ h)
  have hp : ∀ (t : State), t.meter q x.port = (s.meter q x.port).graded s.time → P t →
      P (t.withMeter q x.port (((s.meter q x.port).graded s.time).paced ((s.meter q x.port).gradeAt s.time))) := by
    intro t ht h
    have := k.paced t q x.port ((s.meter q x.port).gradeAt s.time) h
    rwa [ht] at this
  have hm : ∀ (t u : State) (a : Time) (b : EventBody), t.meters = u.meters →
      (t.produce q a b).meters = u.meters := fun t u a b e =>
    State.produce_keeps (P := fun t => t.meters = u.meters)
      ⟨fun _ _ _ h => h, fun _ _ h => h, fun _ _ h => h, fun _ _ h => h, fun _ _ h => h, fun _ _ _ _ h => h,
        fun _ _ _ h => h⟩ t q a b e
  unfold State.meterSymbol
  simp only
  have h1 := State.resolveInhibit_keeps k.toKeptByEvents _ q x.port
    (hp _ (by
      have := hm _ ((s.countPort q x.port fun n => n.addGrade ((s.meter q x.port).gradeAt s.time)).withMeter q x.port
        ((s.meter q x.port).graded s.time)) x.frame.time
        (.symbol x.port c ((s.meter q x.port).gradeAt s.time) x.frame.data none) rfl
      show ((State.meters _).get q).get x.port = _
      rw [this]
      exact State.meter_withMeter_self _ q x.port _)
      (State.produce_keeps k.toKeptByEvents _ q x.frame.time
        (.symbol x.port c ((s.meter q x.port).gradeAt s.time) x.frame.data none) h0))
  split
  · exact State.produce_keeps k.toKeptByEvents _ _ _ _ h1
  · exact h1

theorem State.checkSymbol_keeps (k : KeptByCommands P) (s : State) (q : LaneId) (x : Symbol) (h : P s) :
    P (s.checkSymbol q x) := by
  unfold State.checkSymbol
  simp only
  split
  · exact State.portDoes_keeps k.toKeptByBlocks _ _ _ _ (k.checkFailed s q _ h)
  · split
    · exact k.portCounted s q _ _ h
    · split
      · exact k.portCounted _ q _ _ (k.remembered s q _ _ h)
      · exact State.meterSymbol_keeps k _ q x _ (k.remembered s q _ _ h)

theorem State.sampleSense_keeps (k : KeptByCommands P) (s : State) (q : LaneId) (raw : Bool) (h : P s) :
    P (s.sampleSense q raw) := by
  unfold State.sampleSense
  simp only
  split
  · rename_i hs
    refine State.settle_keeps k.toKeptByBlocks _ ?_
    cases raw with
    | true =>
      refine State.grantAll_keeps k _ (State.perform_keeps k.toKeptByBlocks _ _ _ ?_)
      have := k.openedDrawer s q hs h
      simpa [State.withDrawer] using this
    | false =>
      refine State.drawerDoes_keeps k.toKeptByBlocks _ _ _ ?_
      have := k.closedDrawer s q hs h
      simpa using this
  · rename_i hs
    exact k.sensed s q raw (by simpa using hs) h

/-! ## Every command, every step -/

/-- Every command ends in a next state, and keeps what every elementary update keeps. -/
theorem exec_keeps (k : KeptByCommands P) (c : Instr) (s : State)
    (hc : s.clearsCounters c → ∀ s x, P s → P (s.clearCounters x)) (h : P s) : ∃ t, exec c s = .next t ∧ P t := by
  cases c
  case identify tag b => exact ⟨_, rfl, State.takeWith_keeps k s _ _ _ _ (identify_keeps _ _) h⟩
  case readTime tag b => exact ⟨_, rfl, State.takeWith_keeps k s _ _ _ _ (readTime_keeps _ _) h⟩
  case resetPart tag b => exact ⟨_, rfl, State.takeWith_keeps k s _ _ _ _ (resetPart_keeps k _ _) h⟩
  case resetLane tag b => exact ⟨_, rfl, State.takeWith_keeps k s _ _ _ _ (resetLane_keeps k _ _) h⟩
  case setLaneEnables tag b => exact ⟨_, rfl, State.takeWith_keeps k s _ _ _ _ (setLaneEnables_keeps k _ _) h⟩
  case readLaneStatus tag b => exact ⟨_, rfl, State.takeWith_keeps k s _ _ _ _ (readLaneStatus_keeps _ _) h⟩
  case setKeyboard tag b => exact ⟨_, rfl, State.takeWith_keeps k s _ _ _ _ (setKeyboard_keeps k _ _) h⟩
  case setKeys tag b => exact ⟨_, rfl, State.takeWith_keeps k s _ _ _ _ (setKeys_keeps k _ _) h⟩
  case setScannerLine tag b => exact ⟨_, rfl, State.takeWith_keeps k s _ _ _ _ (setScannerLine_keeps k _ _) h⟩
  case setScannerIds tag b => exact ⟨_, rfl, State.takeWith_keeps k s _ _ _ _ (setScannerIds_keeps k _ _) h⟩
  case setScannerChecks tag b => exact ⟨_, rfl, State.takeWith_keeps k s _ _ _ _ (setScannerChecks_keeps k _ _) h⟩
  case setRepeat tag b => exact ⟨_, rfl, State.takeWith_keeps k s _ _ _ _ (setRepeat_keeps k _ _) h⟩
  case setMeter tag b => exact ⟨_, rfl, State.takeWith_keeps k s _ _ _ _ (setMeter_keeps k _ _) h⟩
  case resyncScanner tag b => exact ⟨_, rfl, State.takeWith_keeps k s _ _ _ _ (resyncScanner_keeps k _ _) h⟩
  case writeRule tag b => exact ⟨_, rfl, State.takeWith_keeps k s _ _ _ _ (writeRule_keeps k _ _) h⟩
  case readRule tag b => exact ⟨_, rfl, State.takeWith_keeps k s _ _ _ _ (readRule_keeps _ _) h⟩
  case clearRule tag b => exact ⟨_, rfl, State.takeWith_keeps k s _ _ _ _ (clearRule_keeps k _ _) h⟩
  case setProfile tag b => exact ⟨_, rfl, State.takeWith_keeps k s _ _ _ _ (setProfile_keeps k _ _) h⟩
  case setAdmission tag b => exact ⟨_, rfl, State.takeWith_keeps k s _ _ _ _ (setAdmission_keeps k _ _) h⟩
  case fetch tag b => exact ⟨_, rfl, State.takeWith_keeps k s _ _ _ _ (fetch_keeps k _ _) h⟩
  case flush tag b => exact ⟨_, rfl, State.takeWith_keeps k s _ _ _ _ (flush_keeps k _ _) h⟩
  case await tag b => exact ⟨_, rfl, State.takeWith_keeps k s _ _ _ _ (await_keeps k _ _) h⟩
  case cancelAwait tag b => exact ⟨_, rfl, State.takeWith_keeps k s _ _ _ _ (cancelAwait_keeps k _ _) h⟩
  case setDrawer tag b => exact ⟨_, rfl, State.takeWith_keeps k s _ _ _ _ (setDrawer_keeps k _ _) h⟩
  case openDrawer tag b => exact ⟨_, rfl, State.takeWith_keeps k s _ _ _ _ (openDrawer_keeps k _ _) h⟩
  case setInterlock tag b => exact ⟨_, rfl, State.takeWith_keeps k s _ _ _ _ (setInterlock_keeps k _ _) h⟩
  case releaseInterlock tag b => exact ⟨_, rfl, State.takeWith_keeps k s _ _ _ _ (releaseInterlock_keeps k _ _) h⟩
  case readInterlocks tag b => exact ⟨_, rfl, State.takeWith_keeps k s _ _ _ _ (readInterlocks_keeps _ _) h⟩
  case setOutput tag b => exact ⟨_, rfl, State.takeWith_keeps k s _ _ _ _ (setOutput_keeps k _ _) h⟩
  case setPattern tag b => exact ⟨_, rfl, State.takeWith_keeps k s _ _ _ _ (setPattern_keeps k _ _) h⟩
  case enterAttendant tag b => exact ⟨_, rfl, State.takeWith_keeps k s _ _ _ _ (enterAttendant_keeps k _ _) h⟩
  case leaveAttendant tag b => exact ⟨_, rfl, State.takeWith_keeps k s _ _ _ _ (leaveAttendant_keeps k _ _) h⟩
  case readCounters tag b => exact ⟨_, rfl, State.takeWith_keeps k s _ _ _ _ (readCounters_keeps _ _) h⟩
  case clearCounters tag b => exact ⟨_, rfl, State.takeWith_keeps k s _ _ _ _ (clearCounters_keeps (hc trivial) _ _) h⟩
  case hostByteReceived v =>
    refine ⟨_, rfl, ?_⟩
    split
    · exact h
    · exact State.huntByte_keeps k s v h
    · split
      · exact State.huntByte_keeps k _ v (State.toHunting_keeps k s _ h)
      · exact State.frameByte_keeps k s _ v h
  case linkGapExpiry =>
    refine ⟨_, rfl, ?_⟩
    split
    · split
      · exact State.toHunting_keeps k s _ h
      · exact h
    · exact h
  case takeRequest =>
    refine ⟨_, rfl, ?_⟩
    split
    · exact h
    · split
      · exact State.takeWith_keeps k _ _ _ _ _ (requestRule_keeps k _ (fun e => hc (by simp [State.clearsCounters, *])) _ _) (k.popped s _ _ ‹_› h)
      · exact h
  case frameSent =>
    refine ⟨_, rfl, ?_⟩
    split
    · exact h
    · split
      · exact h
      · exact k.sent s _ _ ‹_› h
  case readyNotice =>
    refine ⟨_, rfl, ?_⟩
    split
    · rename_i hc
      have := k.ready _ 0 (k.push s s.readyNotice (by simp [State.readyNotice]) h)
      simpa [State.push, hc.1] using this
    · exact h
  case partReset c x => exact ⟨_, rfl, k.reset s _ x _ h⟩
  case resetPartDrained x =>
    refine ⟨_, rfl, ?_⟩
    split
    · exact k.reset s _ x _ h
    · exact k.reset s _ x _ h
    · exact h
  case awaitExpiry q =>
    refine ⟨_, rfl, ?_⟩
    split
    · split
      · exact State.completeWait_keeps k.toKeptByEvents _ _ _ _ _ _ h
      · exact h
    · exact h
  case keyChangeAccepted q raw =>
    refine ⟨_, rfl, ?_⟩
    split
    · exact State.settle_keeps k.toKeptByBlocks _
        (State.keyboardDoes_keeps k.toKeptByBlocks _ _ _ (k.sampled s q _ raw (by simp_all) h))
    · exact h
  case typematicRepeat q =>
    exact ⟨_, rfl, State.settle_keeps k.toKeptByBlocks _
      (State.keyboardDoes_keeps k.toKeptByBlocks _ _ _ (k.repeated s q h))⟩
  case firstSampleAbsorb q raw =>
    refine ⟨_, rfl, ?_⟩
    split
    · exact k.firstSampled s q raw h
    · exact h
  case keylockPatternAccepted q i =>
    exact ⟨_, rfl, State.settle_keeps k.toKeptByBlocks _
      (State.keyboardDoes_keeps k.toKeptByBlocks _ _ _ (k.keylocked s q i h))⟩
  case keylockFault q =>
    exact ⟨_, rfl, State.settle_keeps k.toKeptByBlocks _
      (State.keyboardDoes_keeps k.toKeptByBlocks _ _ _ (k.keyFaulted s q h))⟩
  case scannerByte q p v a b =>
    exact ⟨_, rfl, State.settle_keeps k.toKeptByBlocks _
      (State.portDoes_keeps k.toKeptByBlocks _ _ _ _ (k.tookByte s q p _ _ h))⟩
  case scannerBreak q p =>
    exact ⟨_, rfl, State.settle_keeps k.toKeptByBlocks _
      (State.portDoes_keeps k.toKeptByBlocks _ _ _ _ (k.broke s q p h))⟩
  case scannerGapExpiry q p =>
    exact ⟨_, rfl, State.settle_keeps k.toKeptByBlocks _
      (State.portDoes_keeps k.toKeptByBlocks _ _ _ _ (k.gapped s q p h))⟩
  case errorWindowBoundary q p => exact ⟨_, rfl, k.windowed s q p h⟩
  case symbolTake q =>
    refine ⟨_, rfl, ?_⟩
    split
    · exact h
    · exact State.settle_keeps k.toKeptByBlocks _ (State.checkSymbol_keeps k _ q _ (k.inbox s q _ h))
  case pacingRelease q p =>
    refine ⟨_, rfl, ?_⟩
    split
    · exact State.settle_keeps k.toKeptByBlocks _ (State.produce_keeps k.toKeptByEvents _ _ _ _
        (State.resolveInhibit_keeps k.toKeptByEvents _ _ _ (k.released s q p _ h)))
    · exact h
  case pulseEnd q =>
    refine ⟨_, rfl, ?_⟩
    split
    · exact State.grantAll_keeps k _ (k.pulsed s q _ ‹_› h)
    · exact h
  case cooldownEnd q =>
    refine ⟨_, rfl, ?_⟩
    split
    · exact State.grantAll_keeps k _ (k.cooled s q h)
    · exact h
  case drawerSenseOpen q => exact ⟨_, rfl, State.sampleSense_keeps k s q true h⟩
  case drawerSenseClose q => exact ⟨_, rfl, State.sampleSense_keeps k s q false h⟩
  case confirmExpiry q =>
    exact ⟨_, rfl, State.settle_keeps k.toKeptByBlocks _
      (State.drawerDoes_keeps k.toKeptByBlocks _ _ _ (k.confirmed s q h))⟩
  case queueExpiry q =>
    refine ⟨_, rfl, ?_⟩
    split
    · rename_i e he
      refine State.settle_keeps k.toKeptByBlocks _ (State.abandonOpen_keeps k.toKeptByBlocks _ _ _ _ ?_ h)
      unfold Drawer.queueDue at he
      unfold Drawer.isQueued
      split at he <;> simp_all
    · exact h
  case leftOpen q =>
    exact ⟨_, rfl, State.settle_keeps k.toKeptByBlocks _
      (State.drawerDoes_keeps k.toKeptByBlocks _ _ _ (k.leftOpened s q h))⟩
  case interlockQualifyExpiry i =>
    refine ⟨_, rfl, ?_⟩
    split
    · split
      · exact State.settle_keeps k.toKeptByBlocks _
          (State.turnMonitor_keeps k.toKeptByBlocks _ _ _ _ (k.qualified s i _ ‹_› h))
      · exact h
    · exact h
  case patternStepEnd q o => exact ⟨_, rfl, State.updateSignal_keeps k.toKeptByEvents _ _ _ _ h⟩
  case blinkBoundary q o => exact ⟨_, rfl, State.updateSignal_keeps k.toKeptByEvents _ _ _ _ h⟩

/-- Every step ends in a next state, and keeps what every elementary update keeps. -/
theorem step_keeps (k : KeptByCommands P) (s : State)
    (hc : ∀ c rest, s.pending = c :: rest → s.clearsCounters c → ∀ s x, P s → P (s.clearCounters x)) (h : P s) :
    ∃ t, step s = .next t ∧ P t := by
  unfold step
  split
  · exact ⟨_, rfl, k.ticked s h⟩
  · rename_i c rest e
    refine exec_keeps k c { s with pending := rest } ?_ (k.queued s _ h)
    cases c <;> exact hc _ _ e

/-- Every step keeps what every elementary update and every clear of counters keeps. -/
theorem step_keeps_all (k : KeptByCommands P) (hc : ∀ s x, P s → P (s.clearCounters x)) (s t : State) (h : P s)
    (hs : step s = .next t) : P t := by
  obtain ⟨u, hu, hp⟩ := step_keeps k s (fun _ _ _ _ => hc) h
  rw [hs] at hu
  cases hu
  exact hp

end Sys2Proof.Machine
end

