-- ==== Sys2Proof/WellFormed.lean ====
section
/-!
DEFINITION. Which commands the spec's own formats allow: a request body crosses the link in a frame whose length byte
is at most 255, so it holds at most 253 bytes (R185). Every other operand is well formed by its type.
-/

namespace Sys2Proof

/-- The body of a request command, absent for the other commands. -/
def Instr.body? : Instr → Option (List Byte)
  | .identify _ b => some b
  | .readTime _ b => some b
  | .resetPart _ b => some b
  | .resetLane _ b => some b
  | .setLaneEnables _ b => some b
  | .readLaneStatus _ b => some b
  | .setKeyboard _ b => some b
  | .setKeys _ b => some b
  | .setScannerLine _ b => some b
  | .setScannerIds _ b => some b
  | .setScannerChecks _ b => some b
  | .setRepeat _ b => some b
  | .setMeter _ b => some b
  | .resyncScanner _ b => some b
  | .writeRule _ b => some b
  | .readRule _ b => some b
  | .clearRule _ b => some b
  | .setProfile _ b => some b
  | .setAdmission _ b => some b
  | .fetch _ b => some b
  | .flush _ b => some b
  | .await _ b => some b
  | .cancelAwait _ b => some b
  | .setDrawer _ b => some b
  | .openDrawer _ b => some b
  | .setInterlock _ b => some b
  | .releaseInterlock _ b => some b
  | .readInterlocks _ b => some b
  | .setOutput _ b => some b
  | .setPattern _ b => some b
  | .enterAttendant _ b => some b
  | .leaveAttendant _ b => some b
  | .readCounters _ b => some b
  | .clearCounters _ b => some b
  | .hostByteReceived _ => none
  | .linkGapExpiry => none
  | .takeRequest => none
  | .frameSent => none
  | .readyNotice => none
  | .partReset _ _ => none
  | .resetPartDrained _ => none
  | .awaitExpiry _ => none
  | .keyChangeAccepted _ _ => none
  | .typematicRepeat _ => none
  | .firstSampleAbsorb _ _ => none
  | .keylockPatternAccepted _ _ => none
  | .keylockFault _ => none
  | .scannerByte _ _ _ _ _ => none
  | .scannerBreak _ _ => none
  | .scannerGapExpiry _ _ => none
  | .errorWindowBoundary _ _ => none
  | .symbolTake _ => none
  | .pacingRelease _ _ => none
  | .pulseEnd _ => none
  | .cooldownEnd _ => none
  | .drawerSenseOpen _ => none
  | .drawerSenseClose _ => none
  | .confirmExpiry _ => none
  | .queueExpiry _ => none
  | .leftOpen _ => none
  | .interlockQualifyExpiry _ => none
  | .patternStepEnd _ _ => none
  | .blinkBoundary _ _ => none

/-- A command the link's frame format can carry (R185). -/
def Instr.wellFormed (i : Instr) : Bool :=
  match i.body? with
  | some b => decide (b.length ≤ 253)
  | none => true

end Sys2Proof
end

