-- ==== Sys2Proof/Laws/PerInstr.lean ====
section
/-!
SUPPORT. What the frame format allows of each command (R185): a request is well formed exactly when its body fits a
frame, and every other command always is.
-/

namespace Sys2Proof.Laws.Body

/-- A command is well formed exactly when the body it carries, if any, has at most 253 bytes. -/
def Statement (i : Instr) : Prop := i.wellFormed = true ↔ ∀ b, i.body? = some b → b.length ≤ 253

/-- The statement for a command with a body. -/
theorem of_body {i : Instr} {l : List Byte} (h : i.body? = some l) : Statement i := by
  simp [Statement, Instr.wellFormed, h]

/-- The statement for a command without a body. -/
theorem of_none {i : Instr} (h : i.body? = none) : Statement i := by
  simp [Statement, Instr.wellFormed, h]

theorem identify (tag : Byte) (body : List Byte) : Statement (.identify tag body) := of_body rfl

theorem readTime (tag : Byte) (body : List Byte) : Statement (.readTime tag body) := of_body rfl

theorem resetPart (tag : Byte) (body : List Byte) : Statement (.resetPart tag body) := of_body rfl

theorem resetLane (tag : Byte) (body : List Byte) : Statement (.resetLane tag body) := of_body rfl

theorem setLaneEnables (tag : Byte) (body : List Byte) : Statement (.setLaneEnables tag body) := of_body rfl

theorem readLaneStatus (tag : Byte) (body : List Byte) : Statement (.readLaneStatus tag body) := of_body rfl

theorem setKeyboard (tag : Byte) (body : List Byte) : Statement (.setKeyboard tag body) := of_body rfl

theorem setKeys (tag : Byte) (body : List Byte) : Statement (.setKeys tag body) := of_body rfl

theorem setScannerLine (tag : Byte) (body : List Byte) : Statement (.setScannerLine tag body) := of_body rfl

theorem setScannerIds (tag : Byte) (body : List Byte) : Statement (.setScannerIds tag body) := of_body rfl

theorem setScannerChecks (tag : Byte) (body : List Byte) : Statement (.setScannerChecks tag body) := of_body rfl

theorem setRepeat (tag : Byte) (body : List Byte) : Statement (.setRepeat tag body) := of_body rfl

theorem setMeter (tag : Byte) (body : List Byte) : Statement (.setMeter tag body) := of_body rfl

theorem resyncScanner (tag : Byte) (body : List Byte) : Statement (.resyncScanner tag body) := of_body rfl

theorem writeRule (tag : Byte) (body : List Byte) : Statement (.writeRule tag body) := of_body rfl

theorem readRule (tag : Byte) (body : List Byte) : Statement (.readRule tag body) := of_body rfl

theorem clearRule (tag : Byte) (body : List Byte) : Statement (.clearRule tag body) := of_body rfl

theorem setProfile (tag : Byte) (body : List Byte) : Statement (.setProfile tag body) := of_body rfl

theorem setAdmission (tag : Byte) (body : List Byte) : Statement (.setAdmission tag body) := of_body rfl

theorem fetch (tag : Byte) (body : List Byte) : Statement (.fetch tag body) := of_body rfl

theorem flush (tag : Byte) (body : List Byte) : Statement (.flush tag body) := of_body rfl

theorem await (tag : Byte) (body : List Byte) : Statement (.await tag body) := of_body rfl

theorem cancelAwait (tag : Byte) (body : List Byte) : Statement (.cancelAwait tag body) := of_body rfl

theorem setDrawer (tag : Byte) (body : List Byte) : Statement (.setDrawer tag body) := of_body rfl

theorem openDrawer (tag : Byte) (body : List Byte) : Statement (.openDrawer tag body) := of_body rfl

theorem setInterlock (tag : Byte) (body : List Byte) : Statement (.setInterlock tag body) := of_body rfl

theorem releaseInterlock (tag : Byte) (body : List Byte) : Statement (.releaseInterlock tag body) := of_body rfl

theorem readInterlocks (tag : Byte) (body : List Byte) : Statement (.readInterlocks tag body) := of_body rfl

theorem setOutput (tag : Byte) (body : List Byte) : Statement (.setOutput tag body) := of_body rfl

theorem setPattern (tag : Byte) (body : List Byte) : Statement (.setPattern tag body) := of_body rfl

theorem enterAttendant (tag : Byte) (body : List Byte) : Statement (.enterAttendant tag body) := of_body rfl

theorem leaveAttendant (tag : Byte) (body : List Byte) : Statement (.leaveAttendant tag body) := of_body rfl

theorem readCounters (tag : Byte) (body : List Byte) : Statement (.readCounters tag body) := of_body rfl

theorem clearCounters (tag : Byte) (body : List Byte) : Statement (.clearCounters tag body) := of_body rfl

theorem hostByteReceived (value : Byte) : Statement (.hostByteReceived value) := of_none rfl

theorem linkGapExpiry : Statement (.linkGapExpiry) := of_none rfl

theorem takeRequest : Statement (.takeRequest) := of_none rfl

theorem frameSent : Statement (.frameSent) := of_none rfl

theorem readyNotice : Statement (.readyNotice) := of_none rfl

theorem partReset (cause : ResetPin) (straps : BitVec 2) : Statement (.partReset cause straps) := of_none rfl

theorem resetPartDrained (straps : BitVec 2) : Statement (.resetPartDrained straps) := of_none rfl

theorem awaitExpiry (lane : LaneId) : Statement (.awaitExpiry lane) := of_none rfl

theorem keyChangeAccepted (lane : LaneId) (raw : BitVec 128) : Statement (.keyChangeAccepted lane raw) := of_none rfl

theorem typematicRepeat (lane : LaneId) : Statement (.typematicRepeat lane) := of_none rfl

theorem firstSampleAbsorb (lane : LaneId) (raw : BitVec 128) : Statement (.firstSampleAbsorb lane raw) := of_none rfl

theorem keylockPatternAccepted (lane : LaneId) (inputs : BitVec 4) : Statement (.keylockPatternAccepted lane inputs) := of_none rfl

theorem keylockFault (lane : LaneId) : Statement (.keylockFault lane) := of_none rfl

theorem scannerByte (lane : LaneId) (port : PortId) (value : Byte) (parityBit : Bool) (stopMark : Bool) : Statement (.scannerByte lane port value parityBit stopMark) := of_none rfl

theorem scannerBreak (lane : LaneId) (port : PortId) : Statement (.scannerBreak lane port) := of_none rfl

theorem scannerGapExpiry (lane : LaneId) (port : PortId) : Statement (.scannerGapExpiry lane port) := of_none rfl

theorem errorWindowBoundary (lane : LaneId) (port : PortId) : Statement (.errorWindowBoundary lane port) := of_none rfl

theorem symbolTake (lane : LaneId) : Statement (.symbolTake lane) := of_none rfl

theorem pacingRelease (lane : LaneId) (port : PortId) : Statement (.pacingRelease lane port) := of_none rfl

theorem pulseEnd (lane : LaneId) : Statement (.pulseEnd lane) := of_none rfl

theorem cooldownEnd (lane : LaneId) : Statement (.cooldownEnd lane) := of_none rfl

theorem drawerSenseOpen (lane : LaneId) : Statement (.drawerSenseOpen lane) := of_none rfl

theorem drawerSenseClose (lane : LaneId) : Statement (.drawerSenseClose lane) := of_none rfl

theorem confirmExpiry (lane : LaneId) : Statement (.confirmExpiry lane) := of_none rfl

theorem queueExpiry (lane : LaneId) : Statement (.queueExpiry lane) := of_none rfl

theorem leftOpen (lane : LaneId) : Statement (.leftOpen lane) := of_none rfl

theorem interlockQualifyExpiry (monitor : MonitorId) : Statement (.interlockQualifyExpiry monitor) := of_none rfl

theorem patternStepEnd (lane : LaneId) (output : SignalOut) : Statement (.patternStepEnd lane output) := of_none rfl

theorem blinkBoundary (lane : LaneId) (output : SignalOut) : Statement (.blinkBoundary lane output) := of_none rfl

end Sys2Proof.Laws.Body
end

