-- ==== Sys2Proof/Laws/Requests.lean ====
section
/-!
SUPPORT. The request forms, each said once: what the fields of a body read as, what a lane, a port or an index byte
names, and what a request of a nonzero tag answers by its rule.
-/

namespace Sys2Proof.Machine

/-! ## Fields -/

@[simp] theorem byteAt_zero (a : Byte) (l : List Byte) : byteAt (a :: l) 0 = a := rfl

@[simp] theorem byteAt_succ (a : Byte) (l : List Byte) (n : Nat) : byteAt (a :: l) (n + 1) = byteAt l n := rfl

@[simp] theorem byteAt_nil (n : Nat) : byteAt [] n = 0 := rfl

/-- The two bytes of a two-byte field, put together again. -/
@[simp] theorem halfBytes_append (h : Half) : h.extractLsb' 8 8 ++ h.extractLsb' 0 8 = h := by
  ext i hi
  simp only [BitVec.getElem_append, BitVec.getElem_extractLsb', Nat.zero_add]
  split
  · rw [← BitVec.getLsbD_eq_getElem]
  · rw [show 8 + (i - 8) = i by omega, ← BitVec.getLsbD_eq_getElem]

/-- The four bytes of a four-byte field, put together again. -/
@[simp] theorem wordBytes_append (w : BitVec 32) :
    (w.extractLsb' 24 8 ++ w.extractLsb' 16 8) ++ (w.extractLsb' 8 8 ++ w.extractLsb' 0 8) = w := by
  ext i hi
  simp only [BitVec.getElem_append, BitVec.getElem_extractLsb', Nat.zero_add]
  split <;> split
  · rw [← BitVec.getLsbD_eq_getElem]
  · rw [show 8 + (i - 8) = i by omega, ← BitVec.getLsbD_eq_getElem]
  · rw [show 16 + (i - 16) = i by omega, ← BitVec.getLsbD_eq_getElem]
  · rw [show 24 + (i - 16 - 8) = i by omega, ← BitVec.getLsbD_eq_getElem]

/-! ## Lanes, ports, indices -/

@[simp] theorem laneOf_laneByte : ∀ q : LaneId, laneOf (laneByte q) = some q := by decide

theorem laneOf_eq_none {l : Byte} (h : 3 < l.toNat) : laneOf l = none := by
  unfold laneOf
  split
  · omega
  · rfl

@[simp] theorem portOf_portByte : ∀ p : PortId, portOf (portByte p) = some p
  | .a => rfl
  | .b => rfl

theorem portOf_eq_none {p : Byte} (h : 1 < p.toNat) : portOf p = none := by
  unfold portOf
  split
  · next e => rw [e] at h; exact absurd h (by decide)
  · split
    · next e => rw [e] at h; exact absurd h (by decide)
    · rfl

@[simp] theorem indexOf_eight : ∀ i : Fin 8, indexOf 8 (BitVec.ofNat 8 i.val) = some i := by decide

@[simp] theorem indexOf_sixtyFour : ∀ i : Fin 64, indexOf 64 (BitVec.ofNat 8 i.val) = some i := by decide

theorem indexOf_eq_none {n : Nat} {b : Byte} (h : n ≤ b.toNat) : indexOf n b = none := by
  unfold indexOf
  split
  · omega
  · rfl

@[simp] theorem flagOf_flagByte : ∀ b : Bool, flagOf (flagByte b) = b := by decide

@[simp] theorem isFlag_flagByte : ∀ b : Bool, isFlag (flagByte b) = true := by decide

theorem isFlag_eq_false {b : Byte} (h : 1 < b.toNat) : isFlag b = false := by
  unfold isFlag
  exact decide_eq_false (by omega)

@[simp] theorem levelOf_code : ∀ l : Level, levelOf l.code = some l
  | .off => rfl
  | .on => rfl

@[simp] theorem conditionOf_code : ∀ c : Condition, conditionOf c.code = some c := by intro c; cases c <;> rfl

@[simp] theorem valueKindOf_code : ∀ k : ValueKind, valueKindOf k.code = some k := by intro k; cases k <;> rfl

@[simp] theorem enableSetOf_mask : ∀ e : EnableSet, enableSetOf e.mask = e := by
  rintro ⟨⟨⟩, ⟨⟩, ⟨⟩, ⟨⟩⟩ <;> rfl

theorem EnableSet.mask_lt : ∀ e : EnableSet, maskHas 4 e.mask = true := by
  rintro ⟨⟨⟩, ⟨⟩, ⟨⟩, ⟨⟩⟩ <;> rfl

/-! ## Requests -/

/-- A request of a tag that is not 0 is answered by its rule. -/
theorem State.takeWith_of_ne (s : State) (kind : Byte) {tag : Byte} (h : tag ≠ 0) (b : List Byte)
    (rule : Byte → List Byte → State → State × Answer) :
    s.takeWith kind tag b rule = State.answer tag kind (rule tag b s) := by
  unfold State.takeWith
  rw [if_neg h]

/-- What a rule answers with is the reply that joins the transmit path. -/
@[simp] theorem State.answer_reply (tag kind : Byte) (s : State) (st : Status) (fields : List Byte) :
    State.answer tag kind (s, .reply st fields) = s.replied tag kind st fields := rfl

@[simp] theorem State.answer_noReply (tag kind : Byte) (s : State) : State.answer tag kind (s, .noReply) = s := rfl

@[simp] theorem State.answer_refuse (tag kind : Byte) (s : State) (st : Status) :
    State.answer tag kind (refuse s st) = s.replied tag kind st [] := rfl

/-- A body of the right length whose first byte is a lane reaches the lane's own part of the rule. -/
theorem laneRule_lane {n : Nat} (f : LaneId → List Byte → State → State × Answer) (tag : Byte) (q : LaneId)
    (b : List Byte) (s : State) (h : (laneByte q :: b).length = n) :
    laneRule n f tag (laneByte q :: b) s = f q (laneByte q :: b) s := by
  unfold laneRule
  rw [if_neg (by simpa using h)]
  simp

/-- A body of another length is refused. -/
theorem laneRule_length {n : Nat} (f : LaneId → List Byte → State → State × Answer) (tag : Byte) (b : List Byte)
    (s : State) (h : b.length ≠ n) : laneRule n f tag b s = refuse s .badArgument := by
  unfold laneRule
  rw [if_pos h]

/-- A lane above 3 is refused. -/
theorem laneRule_badLane {n : Nat} (f : LaneId → List Byte → State → State × Answer) (tag l : Byte) (b : List Byte)
    (s : State) (h : (l :: b).length = n) (hl : 3 < l.toNat) : laneRule n f tag (l :: b) s = refuse s .badLane := by
  unfold laneRule
  rw [if_neg (by simpa using h)]
  simp [laneOf_eq_none hl]

/-- A body of the right length that begins with a lane and a port reaches the port's own part of the rule. -/
theorem portRule_port {n : Nat} (f : LaneId → PortId → List Byte → State → State × Answer) (tag : Byte) (q : LaneId)
    (p : PortId) (b : List Byte) (s : State) (h : (laneByte q :: portByte p :: b).length = n) :
    portRule n f tag (laneByte q :: portByte p :: b) s = f q p (laneByte q :: portByte p :: b) s := by
  unfold portRule
  rw [laneRule_lane _ _ _ _ _ h]
  simp

theorem portRule_length {n : Nat} (f : LaneId → PortId → List Byte → State → State × Answer) (tag : Byte)
    (b : List Byte) (s : State) (h : b.length ≠ n) : portRule n f tag b s = refuse s .badArgument :=
  laneRule_length _ _ _ _ h

theorem portRule_badLane {n : Nat} (f : LaneId → PortId → List Byte → State → State × Answer) (tag l : Byte)
    (b : List Byte) (s : State) (h : (l :: b).length = n) (hl : 3 < l.toNat) :
    portRule n f tag (l :: b) s = refuse s .badLane :=
  laneRule_badLane _ _ _ _ _ h hl

theorem portRule_badPort {n : Nat} (f : LaneId → PortId → List Byte → State → State × Answer) (tag : Byte) (q : LaneId)
    (p : Byte) (b : List Byte) (s : State) (h : (laneByte q :: p :: b).length = n) (hp : 1 < p.toNat) :
    portRule n f tag (laneByte q :: p :: b) s = refuse s .badArgument := by
  unfold portRule
  rw [laneRule_lane _ _ _ _ _ h]
  simp [portOf_eq_none hp]

end Sys2Proof.Machine
end

