-- ==== Sys2Proof/Tests/Slice0.lean ====
section
/-!
SUPPORT. Tests. First the well-formedness check and the decoder; then one or two small tests of a command, each one step
from a small state; then, for every obligation with hypotheses, a concrete state and operands that meet them, clause by
clause and at the edges of their ranges. A hypothesis that only names a part of the state (x = s.store.queues.get q) is
met by that part, and is not repeated in a witness.
-/

namespace Sys2Proof.Tests

open Sys2Proof.Machine

set_option Elab.async false

/-! ## States to start from: the state after reset, with one thing of lane 0, or of its port A, changed -/

/-- The state after reset, with nothing in its transmit path. -/
def base : State := { State.reset with link := { State.reset.link with transmit := [] } }

def withLink (f : Link → Link) : State := { base with link := f base.link }
def withQueue (f : LaneQueue → LaneQueue) : State := base.withQueue 0 (f (base.store.queues.get 0))
def withKeys (f : Keyboard → Keyboard) : State := base.withKeyboard 0 (f (base.keyboards.get 0))
def withPort (f : ScannerPort → ScannerPort) : State := base.withPort 0 .a (f (base.port 0 .a))
def withChecker (f : Checker → Checker) : State := base.withChecker 0 (f (base.checkers.get 0))
def withMeter (f : Meter → Meter) : State := base.withMeter 0 .a (f (base.meter 0 .a))
def withDrawer (f : Drawer → Drawer) : State := base.withDrawer 0 (f (base.drawers.get 0))
def withMonitor (f : Monitor → Monitor) : State := base.withMonitor 0 (f (base.monitor 0))
def withLamp (f : SignalOutput → SignalOutput) : State :=
  base.withOutputs 0 { base.outputs.get 0 with lamp := f (base.outputs.get 0).lamp }
def withMode (f : LaneMode → LaneMode) : State := { base with modes := base.modes.set 0 (f (base.modes.get 0)) }

/-- The state after a command; the state itself where the command does not complete. -/
def ran (c : Instr) (s : State) : State :=
  match exec c s with
  | .next t => t
  | _ => s

/-- The body of the youngest message of the transmit path. -/
def reply (s : State) : List Byte := (s.link.transmit.getLast?.map Message.body).getD []

/-- The bodies of the events held for lane 0, oldest first. -/
def held (s : State) : List EventBody := (s.store.queues.get 0).events.map fun r => r.event.body

/-- The states of lane 0 with its KEYBOARD, its SCAN_A or its DRAWER enable on. -/
def keyboardOn : State := withMode fun m => { m with current := ⟨true, false, false, false⟩ }
def scanOn : State :=
  let s := withMode fun m => { m with current := ⟨false, true, false, false⟩ }
  (s.withPort 0 .a { s.port 0 .a with receiverOn := true, framing := .aligned }).resolveInhibit 0 .a
def drawerOn : State := withMode fun m => { m with current := ⟨false, false, false, true⟩ }

/-- Keyboards of lane 0 whose position 5 has code 0x41, repeatable. -/
def keyed (k : Keyboard) : Keyboard := { k with keyTable := k.keyTable.set 5 ⟨0x41, true, false⟩ }

/-- A LOCKED port with an error window from time 0. -/
def lockedPort (x : ScannerPort) : ScannerPort :=
  { x with receiverOn := true, framing := .aligned, alignment := .locked, window := some ⟨0, 10⟩ }

/-- A frame of one character, "5". -/
def frame5 : GoodFrame := { id := none, data := [0x35], time := 0, inhibited := false }

/-- An event record of the class and the source given. -/
def record (c : EventClass) (b : EventBody) : EventRecord :=
  { event := { lane := 0, time := 0, body := b, cls := c, keylock := .sale, tag := none }, sequence := 7,
    lostBefore := 2 }

/-- An enabled monitor of lane 0, watching for an open drawer, that mutes the keys of lane 0 when ACTIVE. -/
def watching (m : Monitor) : Monitor :=
  { m with settings := { m.settings with enabled := true, targets := 1, effects := 1 } }

/-! ## Well-formedness and the decoder -/

/-- A body of 253 bytes fits a frame (R185). -/
theorem test_wellFormed_longest : (Instr.identify 1 (List.replicate 253 0)).wellFormed = true := by decide +kernel

/-- A body of 254 bytes does not, and the check refuses it. -/
theorem test_wellFormed_refuses : (Instr.identify 1 (List.replicate 254 0)).wellFormed = false := by decide +kernel

/-- A command without a body is well formed. -/
theorem test_wellFormed_event : (Instr.frameSent).wellFormed = true := by decide

/-- No table word spells a command: no row of the table gives bits. -/
theorem test_decode_none (n w : Nat) : decodeTableWord n w = none := rfl

/-- A word that spells nothing leaves the queue. -/
theorem test_fetchWord (s : State) (n w : Nat) : s.withFetchWord n w = s := rfl

/-! ## The Link Controller and the Timebase -/

/-- The check of "123456789" (R186). -/
theorem test_crc : crc16 [0x31, 0x32, 0x33, 0x34, 0x35, 0x36, 0x37, 0x38, 0x39] = 0x29B1 := by decide +kernel

theorem test_tick : step base = .next { base with time := 1 } := rfl

theorem test_identify :
    reply (ran (.identify 1 []) base) = [0, 1, 0x0C, 0x41, 1, 4, 8, 1, 0, 64, 0, 0, 0, 0, 0, 0] := by decide +kernel

theorem test_readTime : reply (ran (.readTime 1 []) { base with time := 0x01020304 }) = [0, 2, 1, 2, 3, 4] := by
  decide +kernel

theorem test_readTime_longBody : reply (ran (.readTime 1 [0]) base) = [5, 2] := by decide +kernel

theorem test_resetPart : (ran (.resetPart 1 []) base).link.resetting = true := by decide +kernel

theorem test_hostByte_start : (ran (.hostByteReceived 0xC3) base).link.receiver = .inFrame [] 0 := by decide +kernel

/-- The last byte of the frame C3 02 01 02 and its check: the request joins the receive buffer. -/
theorem test_hostByte_last :
    (ran (.hostByteReceived ((crc16 [2, 1, 2]).setWidth 8))
      (withLink fun l => { l with receiver := .inFrame [2, 1, 2, (crc16 [2, 1, 2]).extractLsb' 8 8] 0 })).link.buffer =
      [⟨1, 2, []⟩] := by decide +kernel

theorem test_linkGap :
    (ran .linkGapExpiry { withLink (fun l => { l with receiver := .inFrame [2] 0 }) with time := 11 }).link.receiver =
      .hunting := by decide +kernel

theorem test_takeRequest :
    reply (ran .takeRequest (withLink fun l => { l with buffer := [⟨1, 2, []⟩] })) = [0, 2, 0, 0, 0, 0] := by
  decide +kernel

theorem test_takeRequest_unknown :
    reply (ran .takeRequest (withLink fun l => { l with buffer := [⟨1, 0x7F, []⟩] })) = [6, 0x7F] := by
  decide +kernel

theorem test_frameSent :
    (ran .frameSent State.reset).link.hostLine =
      frameBytes 0 0xF0 [0, 1] := by decide +kernel

theorem test_readyNotice :
    reply (ran .readyNotice (withLink fun l => { l with readyPending := 2 })) = [2, 0, 0, 0, 0, 0, 0, 0, 0] := by
  decide +kernel

theorem test_partReset : (ran (.partReset .pin 2) base).link.cause = .pin := by decide +kernel

theorem test_resetPartDrained :
    (ran (.resetPartDrained 3) (withLink fun l => { l with resetting := true })).link.rateCode = 3 := by decide +kernel

theorem test_readCounters :
    reply (ran (.readCounters 1 [2, 0, 0])
      (withKeys fun k => { k with counters := { k.counters with presses := 3 } })) =
      [0, 0x21, 2, 0, 0, 4, 0, 0, 0, 3, 0, 0, 0, 0, 0, 0, 0, 0, 0, 0, 0, 0] := by decide +kernel

theorem test_clearCounters :
    ((ran (.clearCounters 1 [2, 0, 0])
      (withKeys fun k => { k with counters := { k.counters with presses := 3 } })).keyboards.get 0).counters.presses =
      0 := by decide +kernel

/-! ## The Event Store -/

theorem test_setAdmission :
    reply (ran (.setAdmission 1
      ([0, 0, 0, 0] ++ [0, 96, 0, 64, 0, 32, 0, 176, 0, 160, 0, 128] ++ [0, 48, 0, 48, 0, 48, 0, 48])) base) =
      [0, 0x13, 0, 0, 0, 0, 0, 96, 0, 64, 0, 32, 0, 176, 0, 160, 0, 128, 0, 48, 0, 48, 0, 48, 0, 48] := by
  decide +kernel

theorem test_fetch :
    held (ran (.fetch 1 [0, 1])
      (withQueue fun x => { x with events := [record .critical .attendantOn, record .critical .drawerFailed] })) =
      [.drawerFailed] := by decide +kernel

/-- The record of the example of section 11.4: 47 bytes, with the tag 0x0200 and a VALID price of 1499 (R203). -/
theorem test_record :
    EventRecord.bytes
      { event :=
          { lane := 1, time := 0x01020304
            body := .symbol .b 1 .steady [50, 49, 49, 50, 51, 52, 53, 49, 52, 57, 57, 56, 56]
              (some ⟨.valid, .price, 2, some 1499, some [49, 50, 51, 52, 53]⟩)
            cls := .bulk, keylock := .sale, tag := some 0x0200 }
        sequence := 0x0506, lostBefore := 0x0708 } =
      [47, 1, 5, 6, 1, 2, 3, 4, 3, 0, 3, 1, 3, 2, 0, 7, 8, 1, 1, 0, 13, 50, 49, 49, 50, 51, 52, 53, 49, 52, 57, 57, 56,
        56, 0, 0, 2, 0, 0, 5, 219, 5, 49, 50, 51, 52, 53] := by decide +kernel

theorem test_flush :
    reply (ran (.flush 1 [0])
      (withQueue fun x => { x with events := [record .critical .attendantOn], lost := 3 })) =
      [0, 0x15, 0, 0, 1, 0, 3] := by decide +kernel

/-- An empty queue replies with both numbers 0, and its L_q becomes 0 all the same (R16). -/
theorem test_flush_empty :
    (fun t => (reply t, (t.store.queues.get 0).lost)) (ran (.flush 1 [0]) (withQueue fun x => { x with lost := 3 })) =
      ([0, 0x15, 0, 0, 0, 0, 0], 0) := by decide +kernel

theorem test_await_now :
    reply (ran (.await 9 [0, 0x20, 0, 0, 0, 50])
      (withQueue fun x => { x with events := [record .critical .attendantOn] })) =
      [0, 0x16, 0, 0, 0, 0, 50, 0, 1, 0, 7, 0] := by decide +kernel

theorem test_await_waits :
    ((ran (.await 9 [0, 0x20, 0, 0, 0, 50]) base).store.queues.get 0).wait =
      some { tag := 9, sources := 0x20, timeout := 50, clamped := false, expiry := some 50 } := by decide +kernel

/-- A wait of lane 0 for any source, that ends at time 50. -/
def waiting : Wait := { tag := 9, sources := 0x3F, timeout := 50, clamped := false, expiry := some 50 }

theorem test_awaitExpiry :
    reply (ran (.awaitExpiry 0) { withQueue (fun x => { x with wait := some waiting }) with time := 50 }) =
      [12, 0x16, 0, 0, 0, 0, 50, 0, 0, 0, 0, 0] := by decide +kernel

theorem test_cancelAwait :
    (ran (.cancelAwait 1 [0]) (withQueue fun x => { x with wait := some waiting })).link.transmit.map Message.body =
      [[13, 0x16, 0, 0, 0, 0, 50, 0, 0, 0, 0, 0], [0, 0x17, 0, 0]] := by decide +kernel

/-! ## The Classification Table -/

/-- A record of zeros: a rule that matches every event and claims no action. -/
def plainRule : RuleRecord :=
  { enables := ⟨false, false, false, false, false, false, false, false, false, false⟩, lanes := 0, sources := 0,
    keylock := 0, privilege := 0, symbologies := 0, prefixLength := 0, prefixEntries := Vector.replicate 8 0,
    lengthMin := 0, lengthMax := 0, grades := 0, codeLow := 0, codeHigh := 0, transitions := 0,
    modes := ⟨.off, .off, .off, .off, .off, .off⟩, disposeValue := 0, redirectLane := 0, classValue := 0, tagValue := 0,
    decodeProfile := 0, signalOutput := 0, signalPattern := 0, countIndex := 0 }

theorem test_writeRule : (ran (.writeRule 1 (63 :: List.replicate 46 0)) base).table.rule 63 = some plainRule := by
  decide +kernel

theorem test_readRule_unused : reply (ran (.readRule 1 [63]) base) = [0, 0x10, 63, 0] ++ List.replicate 46 0 := by
  decide +kernel

theorem test_clearRule : reply (ran (.clearRule 1 [64]) base) = [4, 0x11] := by decide +kernel

theorem test_setProfile :
    (ran (.setProfile 1 [7, 0, 9, 0, 2, 12, 2, 5]) base).table.profile 7 =
      { valueStart := 1, valueLength := 6, kind := .price, decimals := 2, checkPosition := 12, itemStart := 2,
        itemLength := 5 } := by decide +kernel

/-! ## The Key Matrix Unit -/

/-- A key down for the debounce time is reported (R55, R59). -/
theorem test_keyChange_press :
    held (ran (.keyChangeAccepted 0 (BitVec.twoPow 128 5))
      { keyboardOn.withKeyboard 0
          { keyed (keyboardOn.keyboards.get 0) with previousRaw := BitVec.twoPow 128 5 } with time := 10 }) =
      [.key .press 5 0x41] := by decide +kernel

/-- A press with REPEAT_RELEASE empties the recent-symbol list of the lane's Symbol Checker (R61, R116). -/
theorem test_keyChange_empties :
    ((ran (.keyChangeAccepted 0 (BitVec.twoPow 128 5))
      { (keyboardOn.withKeyboard 0
          { keyboardOn.keyboards.get 0 with
            keyTable := (keyboardOn.keyboards.get 0).keyTable.set 5 ⟨0x41, false, true⟩
            previousRaw := BitVec.twoPow 128 5 }).withChecker 0
          { base.checkers.get 0 with recent := [⟨0, [0x35], 0⟩] } with time := 10 }).checkers.get 0).recent = [] := by
  decide +kernel

/-- Nine milliseconds are not enough. -/
theorem test_keyChange_early :
    held (ran (.keyChangeAccepted 0 (BitVec.twoPow 128 5))
      { keyboardOn.withKeyboard 0
          { keyed (keyboardOn.keyboards.get 0) with previousRaw := BitVec.twoPow 128 5 } with time := 9 }) =
      [] := by decide +kernel

theorem test_firstSample :
    ((ran (.firstSampleAbsorb 0 (BitVec.twoPow 128 5))
      (keyboardOn.withKeyboard 0 { keyed (keyboardOn.keyboards.get 0) with firstSample := true })).keyboards.get
        0).absorbed = BitVec.twoPow 128 5 := by decide +kernel

/-- Position 5 reported down, as the typematic key due at time 500. -/
def pressed (k : Keyboard) : Keyboard :=
  { keyed k with
    debounced := BitVec.twoPow 128 5
    previousRaw := BitVec.twoPow 128 5
    reported := [⟨5, ⟨0x41, true, false⟩, 0⟩]
    typematic := some ⟨5, 500⟩ }

theorem test_typematic :
    held (ran (.typematicRepeat 0) { withKeys pressed with time := 500 }) = [.key .repeated 5 0x41] := by decide +kernel

theorem test_typematic_early : held (ran (.typematicRepeat 0) { withKeys pressed with time := 499 }) = [] := by
  decide +kernel

theorem test_keylock :
    held (ran (.keylockPatternAccepted 0 4)
      { withKeys (fun k => { k with keylock := { k.keylock with previousRaw := some 4 } }) with time := 50 }) =
      [.keylockPosition .supervisor] := by decide +kernel

/-- A key lock that shows two positions at once since time 0. -/
def doubtful (k : Keyboard) : Keyboard :=
  { k with
    keylock := { position := .sale, previousRaw := some 3, debounced := some 3, rawChange := 0, faultTimer := some 0 } }

theorem test_keylockFault :
    held (ran (.keylockFault 0) { withKeys doubtful with time := 500 }) = [.keylockFault .sale 3] := by decide +kernel

/-- A key lock whose fault has been produced, and that has shown two other positions at once since time 600. -/
def faultedLock (k : Keyboard) : Keyboard :=
  { k with
    keylock :=
      { position := .unknown, previousRaw := some 12, debounced := some 3, rawChange := 600, faultTimer := none } }

/-- The other invalid pattern is accepted and does not start the fault timer again (R73). -/
theorem test_keylock_afterFault :
    (((ran (.keylockPatternAccepted 0 12) { withKeys faultedLock with time := 650 }).keyboards.get 0).keylock.debounced,
      ((ran (.keylockPatternAccepted 0 12) { withKeys faultedLock with time := 650 }).keyboards.get
        0).keylock.faultTimer) = (some 12, none) := by decide +kernel

theorem test_setKeyboard :
    reply (ran (.setKeyboard 1 [0, 9, 0, 1, 0, 11, 0, 1, 0x0F, 0xFF, 0, 0, 0]) base) =
      [1, 7, 0, 8, 1, 1, 1, 10, 0, 200, 3, 232, 1, 0, 100] := by decide +kernel

theorem test_setKeys :
    ((ran (.setKeys 1 [0, 5, 1, 0x41, 3]) base).keyboards.get 0).keyTable.get 5 = ⟨0x41, true, true⟩ := by
  decide +kernel

/-! ## The Scanner Ports -/

/-- A frame of one character "5" and its terminator: the terminator makes it good, and the port a candidate. -/
theorem test_scannerByte_good :
    ((ran (.scannerByte 0 .a 0x0D false true)
      (scanOn.withPort 0 .a { scanOn.port 0 .a with bytes := [⟨0x35, false⟩] })).port 0 .a).alignment = .candidate := by
  decide +kernel

/-- A byte whose stop bit is at space is in error, and spoils its frame. -/
theorem test_scannerByte_error :
    ((ran (.scannerByte 0 .a 0x0D false true)
      (scanOn.withPort 0 .a { scanOn.port 0 .a with bytes := [⟨0x35, true⟩] })).port 0 .a).counters.byteError = 1 := by
  decide +kernel

theorem test_scannerBreak :
    held (ran (.scannerBreak 0 .a) (withPort lockedPort)) = [.scannerLost .a .lineBreak] := by decide +kernel

theorem test_scannerGap :
    ((ran (.scannerGapExpiry 0 .a)
      { withPort (fun x => { lockedPort x with bytes := [⟨0x35, false⟩] }) with time := 51 }).port 0 .a).counters.gap =
      1 := by decide +kernel

theorem test_errorWindow :
    ((ran (.errorWindowBoundary 0 .a)
      { withPort (fun x => { lockedPort x with windowCount := 3 }) with time := 10000 }).port 0 .a).window =
      some ⟨10000, 10⟩ := by decide +kernel

theorem test_resync :
    held (ran (.resyncScanner 1 [0, 0]) (scanOn.withPort 0 .a (lockedPort (scanOn.port 0 .a)))) =
      [.scannerLost .a .resync] := by decide +kernel

theorem test_setScannerLine :
    reply (ran (.setScannerLine 1 [0, 1, 4, 2, 1, 2, 1, 1, 2, 13, 10, 0, 60, 0, 0, 0, 0, 0, 0, 1]) base) =
      [1, 9, 0, 1, 4, 2, 1, 2, 1, 1, 2, 13, 10, 1, 48, 0, 5, 1, 2, 1, 1, 1] := by decide +kernel

theorem test_setScannerIds :
    reply (ran (.setScannerIds 1 ([0, 0] ++ [1, 0x41, 1] ++ List.replicate 45 0)) base) = [0, 10, 0, 0, 1] := by
  decide +kernel

/-! ## The Symbol Checkers and the Scan Meters -/

/-- The check digit of the spec's example 5.4. -/
theorem test_checkDigit :
    passesCheck 13 [0x32, 0x31, 0x32, 0x33, 0x34, 0x35, 0x33, 0x30, 0x31, 0x34, 0x39, 0x39, 0x33] = true := by
  decide +kernel

/-- The embedded price of the spec's example 5.8, in its digits 8 to 12. -/
theorem test_price :
    decimal [0x30, 0x31, 0x34, 0x39, 0x39] = 1499 := by decide +kernel

theorem test_symbolTake :
    held (ran (.symbolTake 0) (withChecker fun c => { c with inbox := [⟨.a, frame5⟩] })) =
      [.symbol .a 0 .steady [0x35] none] := by decide +kernel

/-- The same symbol again within the hold time is dropped. -/
theorem test_symbolTake_repeat :
    held (ran (.symbolTake 0)
      { withChecker (fun c => { c with inbox := [⟨.a, frame5⟩], recent := [⟨0, [0x35], 0⟩] }) with time := 499 }) =
      [] := by decide +kernel

theorem test_pacingRelease :
    held (ran (.pacingRelease 0 .a) { withMeter (fun m => { m with pacing := .holding 100 }) with time := 100 }) =
      [.pacingOff .a] := by decide +kernel

theorem test_setScannerChecks : reply (ran (.setScannerChecks 1 [0, 0, 0, 0x10]) base) = [5, 11] := by decide +kernel

theorem test_setRepeat : reply (ran (.setRepeat 1 [0, 0x13, 0x89]) base) = [1, 12, 0, 0x13, 0x88, 0] := by
  decide +kernel

theorem test_setMeter :
    reply (ran (.setMeter 1 [0, 0, 0, 33, 65, 1, 33]) base) = [1, 13, 0, 0, 1, 32, 64, 1, 32, 0, 0, 0, 0] := by
  decide +kernel

/-! ## The Drawer Controllers and the Drive Supply Arbiter -/

theorem test_setDrawer :
    reply (ran (.setDrawer 1 [0, 0, 0, 0, 0, 0, 1, 0, 0, 0, 0, 0]) base) =
      [1, 24, 0, 0, 20, 0, 100, 0, 10, 0, 200, 0, 250, 1, 0] := by decide +kernel

/-- A request that finds a slot free is granted in its own handling, and its reply says QUEUED (R138). -/
theorem test_openDrawer :
    ((ran (.openDrawer 1 [0, 0]) drawerOn).drawers.get 0).state = .driving 80 := by decide +kernel

theorem test_openDrawer_reply : reply (ran (.openDrawer 1 [0, 0]) drawerOn) = [0, 25, 0, 0, 1] := by decide +kernel

theorem test_pulseEnd :
    ((ran (.pulseEnd 0) { withDrawer (fun d => { d with state := .driving 80 }) with time := 80 }).drawers.get 0).state =
      .confirming 1080 := by decide +kernel

theorem test_cooldownEnd :
    ((ran (.cooldownEnd 0) { withDrawer (fun d => { d with cooldownEnd := some 580 }) with time := 580 }).drawers.get
      0).cooldownEnd = none := by decide +kernel

theorem test_senseOpen :
    held (ran (.drawerSenseOpen 0) { withDrawer (fun d => { d with senseRaw := true }) with time := 30 }) =
      [.drawerOpened .uncommanded] := by decide +kernel

/-- An open drawer, since time 100, whose alarm is due at time 60100. -/
def opened (d : Drawer) : Drawer := { d with state := .opened 100 (some 60100) false, senseOpen := true, senseRaw := true }

theorem test_senseClose :
    held (ran (.drawerSenseClose 0) { withDrawer (fun d => { opened d with senseRaw := false }) with time := 1100 }) =
      [.drawerClosed 1000] := by decide +kernel

theorem test_leftOpen : held (ran (.leftOpen 0) { withDrawer opened with time := 60100 }) = [.drawerLeftOpen] := by
  decide +kernel

theorem test_confirmExpiry :
    held (ran (.confirmExpiry 0) { withDrawer (fun d => { d with state := .confirming 1080 }) with time := 1080 }) =
      [.drawerFailed] := by decide +kernel

theorem test_queueExpiry :
    held (ran (.queueExpiry 0) { withDrawer (fun d => { d with state := .queued 2000 }) with time := 2000 }) =
      [.drawerAbandoned .queueTimeout] := by decide +kernel

/-! ## The Interlock Monitors and the Lane Output Units -/

/-- The settings of test_setInterlock: monitor 0, on the DRAWER_OPEN condition FALSE, mutes the keys of lane 0. -/
theorem test_setInterlock :
    reply (ran (.setInterlock 1 [0, 1, 0, 0, 0, 0, 0, 0, 0, 0, 0, 0, 1, 1, 0, 0]) base) =
      [0, 26, 0, 1, 0, 0, 0, 0, 0, 0, 0, 0, 0, 0, 1, 1, 0, 0, 0, 2] := by decide +kernel

theorem test_qualifyExpiry :
    ((ran (.interlockQualifyExpiry 0)
      { withMonitor (fun m =>
          { watching m with
            settings := { (watching m).settings with qualify := 3, sense := false }
            isMatch := true
            state := .qualifying 0 }) with time := 30 }).interlocks.conditions.get 0).muted = true := by decide +kernel

/-- An ACTIVE, LATCHED monitor whose match has ended is released. -/
theorem test_releaseInterlock :
    held (ran (.releaseInterlock 1 [0])
      (withMonitor fun m => { watching m with state := .active })) = [.interlockOff 0 .released] := by decide +kernel

/-- The RELEASE of position 6, at a sample at which a REPEAT of position 5 is due, makes a monitor mute the lane; the mute
comes before the typematic test, which then finds no typematic key (log 30). -/
theorem test_sample_mutes :
    (fun t => (held t, (t.keyboards.get 0).typematic)) (ran (.keyChangeAccepted 0 (BitVec.twoPow 128 5))
      { (keyboardOn.withKeyboard 0
          { pressed (keyboardOn.keyboards.get 0) with
            debounced := BitVec.twoPow 128 5 ||| BitVec.twoPow 128 6
            reported := [⟨5, ⟨0x41, true, false⟩, 0⟩, ⟨6, ⟨0x42, false, false⟩, 0⟩] }).withMonitor 0
          { watching (base.monitor 0) with
            settings := { (watching (base.monitor 0)).settings with
              condition := .queueAtLeast, queueParam := 1, sense := true } } with time := 500 }) =
      ([.key .release 6 0x42, .interlockOn 0, .key .forcedRelease 5 0x41], none) := by decide +kernel

/-- A monitor of lane 0, ACTIVE, that watches for 1 event held and keys nothing. -/
def crowded (m : Monitor) : Monitor :=
  { m with
    settings := { m.settings with enabled := true, condition := .queueAtLeast, queueParam := 1, sense := true }
    isMatch := true
    state := .active }

/-- A FETCH that empties the queue ends the match; the INTERLOCK_OFF event makes it begin again, and both changes are
taken (R157). -/
theorem test_settle_bounce :
    held (ran (.fetch 1 [0, 8])
      { withMonitor crowded with store := base.store.withQueue 0 { base.store.queues.get 0 with
        events := [record .critical .attendantOn] } }) =
      [.interlockOff 0 .matchEnded, .interlockOn 0] := by decide +kernel

/-- The reply to a release gives INACTIVE and match false, while the INTERLOCK_OFF admitted makes the monitor ACTIVE again
(log 29). -/
theorem test_release_bounce :
    (fun t => (reply t, (t.monitor 0).state)) (ran (.releaseInterlock 1 [0])
      (withMonitor fun m => { crowded m with
        settings := { (crowded m).settings with latched := true }
        isMatch := false })) =
      ([0, 0x1B, 0, 0, 0, 0], .active) := by decide +kernel

theorem test_readInterlocks :
    (reply (ran (.readInterlocks 1 []) (withMonitor watching))).take 7 = [0, 28, 1, 0, 0, 0, 0] := by decide +kernel

theorem test_setOutput : reply (ran (.setOutput 1 [0, 0, 2]) base) = [0, 29, 0, 0, 2, 0, 1] := by decide +kernel

theorem test_blinkBoundary :
    ((ran (.blinkBoundary 0 .lamp) { withLamp (fun o => { o with host := .blink 0, level := .on }) with
      time := 500 }).outputs.get 0).lamp.level = .off := by decide +kernel

theorem test_setPattern :
    reply (ran (.setPattern 1 [7, 5, 1, 0, 0, 2, 1, 3, 0, 0]) base) = [1, 30, 7, 4, 1, 1, 0, 2, 1, 3, 0, 1] := by
  decide +kernel

theorem test_patternStepEnd :
    ((ran (.patternStepEnd 0 .lamp)
      { withLamp (fun o => { o with playing := some ⟨⟨.off, 1⟩, [⟨.on, 2⟩], 10⟩ }) with time := 10 }).outputs.get
        0).lamp.level = .on := by decide +kernel

/-! ## The Lane Mode Units -/

theorem test_setLaneEnables :
    reply (ran (.setLaneEnables 1 [0, 0, 8]) base) = [0, 5, 0, 0, 1, 8, 0] := by decide +kernel

theorem test_enterAttendant : held (ran (.enterAttendant 1 [0]) base) = [.attendantOn] := by decide +kernel

theorem test_leaveAttendant :
    held (ran (.leaveAttendant 1 [0]) (withMode fun m => { m with attendant := true })) =
      [.attendantOff .leaveRequest] := by decide +kernel

theorem test_readLaneStatus : (reply (ran (.readLaneStatus 1 [0]) drawerOn)).take 4 = [0, 6, 0, 8] := by decide +kernel

/-- The pattern a SIGNAL starts for the INTERLOCK_OFF that the flush of RESET_LANE brings about plays on (R181). -/
theorem test_resetLane_signal :
    (((({ withMonitor crowded with
          store := base.store.withQueue 0 { base.store.queues.get 0 with events := [record .critical .attendantOn] }
          table := base.table.withRule 63 (some { plainRule with modes := ⟨.off, .off, .off, .off, .set, .off⟩ })
          patterns := base.patterns.set 0 ⟨1, #v[⟨.on, 5⟩, ⟨.off, 0⟩, ⟨.off, 0⟩, ⟨.off, 0⟩]⟩ }.resetLaneQueue
        0).resetLanePatterns 0).outputs.get 0).lamp.playing) = some ⟨⟨.on, 5⟩, [], 50⟩ := by decide +kernel

theorem test_resetLane_badLane : reply (ran (.resetLane 1 [4]) base) = [3, 4] := by decide +kernel

/-! ## Hypotheses that are met -/

/-- The hypotheses of WrongLengthRefused, BadLaneRefused and BadPortRefused are met for every body length they are
stated with: a tag, a body one byte longer, the first lane and the first port that do not exist. -/
theorem witness_refusals (n : Nat) :
    (∃ (tag : Byte) (b : List Byte), tag ≠ 0 ∧ b.length ≠ n) ∧
    (1 ≤ n → ∃ (tag l : Byte) (b : List Byte), tag ≠ 0 ∧ (l :: b).length = n ∧ 3 < l.toNat) ∧
    (2 ≤ n → ∃ (tag p : Byte) (q : LaneId) (b : List Byte),
      tag ≠ 0 ∧ (laneByte q :: p :: b).length = n ∧ 1 < p.toNat) := by
  refine ⟨⟨1, List.replicate (n + 1) 0, by decide, by simp⟩, fun h => ⟨1, 4, List.replicate (n - 1) 0, by decide, ?_, by decide⟩,
    fun h => ⟨1, 2, 3, List.replicate (n - 2) 0, by decide, ?_, by decide⟩⟩ <;> simp <;> omega

/-- EveryStepCompletes: a command that resets nothing, and a state with no command. -/
theorem witness_EveryStepCompletes :
    (∃ c : Instr, (∀ x y, c ≠ .partReset x y) ∧ ∀ y, c ≠ .resetPartDrained y) ∧ ∃ s : State, s.pending = [] :=
  ⟨⟨.frameSent, by simp, by simp⟩, ⟨base, rfl⟩⟩

/-- ResetPart: the request; and, of the reset that ends it, with one message left, with none, not asked for, and with
two messages left. -/
theorem witness_ResetPart :
    (∃ tag : Byte, tag ≠ 0) ∧
    (∃ (s : State) (m : Message), s.link.resetting = true ∧ s.link.transmit = [m]) ∧
    (∃ s : State, s.link.resetting = true ∧ s.link.transmit = []) ∧
    (∃ s : State, s.link.resetting = false) ∧
    ∃ s : State, s.link.resetting = true ∧ 2 ≤ s.link.transmit.length :=
  ⟨⟨1, by decide⟩, ⟨withLink fun l => { l with resetting := true, transmit := [startedNotice .power] }, _, rfl, rfl⟩,
    ⟨withLink fun l => { l with resetting := true }, rfl, rfl⟩, ⟨base, rfl⟩,
    ⟨withLink fun l => { l with resetting := true, transmit := [startedNotice .power, startedNotice .pin] }, rfl,
      by decide⟩⟩

/-- FrameReceivedWhole: the longest body, with the receive buffer empty, with 3 frames in it, and with 4. -/
theorem witness_FrameReceivedWhole :
    (∃ (body : List Byte) (s : State), body.length = 253 ∧ s.link.receiver = .hunting ∧ s.link.buffer.length = 0) ∧
    (∃ s : State, s.link.receiver = .hunting ∧ s.link.buffer.length = 3) ∧
    ∃ s : State, s.link.receiver = .hunting ∧ 4 ≤ s.link.buffer.length :=
  ⟨⟨List.replicate 253 0, base, List.length_replicate, rfl, rfl⟩,
    ⟨withLink fun l => { l with buffer := List.replicate 3 ⟨1, 2, []⟩ }, rfl, rfl⟩,
    ⟨withLink fun l => { l with buffer := List.replicate 4 ⟨1, 2, []⟩ }, rfl, by decide⟩⟩

/-- A receiver in a frame with the bytes given, the last at time 0. -/
def inFrame (l : List Byte) (now : Time) : State :=
  { withLink (fun x => { x with receiver := .inFrame l 0 }) with time := now }

/-- HostBytes: with the receiver off; hunting; at the length byte, 11 ms after the start byte; in the middle of a frame;
at the last byte of a frame whose check is wrong; at one whose check holds, with room in the receive buffer and with
none; a byte 12 ms after the one before it; a gap of 11 ms; a gap of 10 ms; and no frame begun. -/
theorem witness_HostBytes :
    (∃ s : State, s.link.receiver = .off) ∧ (∃ s : State, s.link.receiver = .hunting) ∧
    (∃ s : State, s.link.receiver = .inFrame [] 0 ∧ elapsed s.time 0 = 11) ∧
    (∃ (s : State) (n : Byte) (l : List Byte), s.link.receiver = .inFrame (n :: l) 0 ∧ 2 ≤ n.toNat ∧
      elapsed s.time 0 = 11 ∧ l.length + 2 < n.toNat + 3) ∧
    (∃ (s : State) (n c v : Byte) (l : List Byte), s.link.receiver = .inFrame (n :: l ++ [c]) 0 ∧ 2 ≤ n.toNat ∧
      elapsed s.time 0 ≤ 11 ∧ l.length = n.toNat ∧ crc16 (n :: l) ≠ c ++ v) ∧
    (∃ (s : State) (n c v tag kind : Byte) (body : List Byte),
      s.link.receiver = .inFrame (n :: tag :: kind :: body ++ [c]) 0 ∧ elapsed s.time 0 = 11 ∧
      body.length + 2 = n.toNat ∧ crc16 (n :: tag :: kind :: body) = c ++ v ∧ s.link.buffer.length = 3) ∧
    (∃ (s : State) (n c v tag kind : Byte) (body : List Byte),
      s.link.receiver = .inFrame (n :: tag :: kind :: body ++ [c]) 0 ∧ elapsed s.time 0 ≤ 11 ∧
      body.length + 2 = n.toNat ∧ crc16 (n :: tag :: kind :: body) = c ++ v ∧ s.link.buffer.length = 4) ∧
    (∃ s : State, s.link.receiver = .inFrame [2] 0 ∧ elapsed s.time 0 = 12) ∧
    (∃ s : State, s.link.receiver = .inFrame [2] 0 ∧ elapsed s.time 0 = 11) ∧
    (∃ s : State, s.link.receiver = .inFrame [2] 0 ∧ elapsed s.time 0 = 10) :=
  ⟨⟨withLink fun l => { l with receiver := .off }, rfl⟩, ⟨base, rfl⟩, ⟨inFrame [] 11, rfl, by decide⟩,
    ⟨inFrame [2] 11, 2, [], rfl, by decide, by decide, by decide⟩,
    ⟨inFrame [2, 1, 2, 0] 0, 2, 0, 0, [1, 2], rfl, by decide, by decide, by decide, by decide +kernel⟩,
    ⟨{ withLink (fun x =>
        { x with receiver := .inFrame [2, 1, 2, 0xB1] 0, buffer := List.replicate 3 ⟨1, 2, []⟩ }) with time := 11 },
      2, 0xB1, 0x8F, 1, 2, [], rfl, by decide, rfl, by decide +kernel, rfl⟩,
    ⟨withLink fun x => { x with receiver := .inFrame [2, 1, 2, 0xB1] 0, buffer := List.replicate 4 ⟨1, 2, []⟩ },
      2, 0xB1, 0x8F, 1, 2, [], rfl, by decide, rfl, by decide +kernel, rfl⟩,
    ⟨inFrame [2] 12, rfl, by decide⟩,
    ⟨inFrame [2] 11, rfl, by decide⟩, ⟨inFrame [2] 10, rfl, by decide⟩⟩

/-- RequestTaken: tag 0 with a kind that is a request; a kind whose refusals carry no fields; no frame; a reply unsent; a STARTED notice unsent; a request to
take, behind a notice that does not hold it back; and a kind that is no request, with tag 0 and with another. -/
theorem witness_RequestTaken :
    (∃ (kind : Byte) (c : Instr), requestCommand kind 0 [] = some c) ∧
    (∃ kind : Byte, kind ≠ 0x16 ∧ kind ≠ 0x19) ∧ (∃ s : State, s.link.buffer = []) ∧
    (∃ (s : State) (m : Message), m ∈ s.link.transmit ∧ m.origin = .taken) ∧
    (∃ (s : State) (m : Message), m ∈ s.link.transmit ∧ m.origin = .started) ∧
    (∃ (s : State) (f : RequestFrame) (c : Instr), s.link.buffer = [f] ∧ s.link.transmit ≠ [] ∧
      (∀ m ∈ s.link.transmit, m.origin ≠ .taken ∧ m.origin ≠ .started) ∧
      requestCommand f.kind f.tag f.body = some c) ∧
    (∃ (s : State) (f : RequestFrame), s.link.buffer = [f] ∧
      (∀ m ∈ s.link.transmit, m.origin ≠ .taken ∧ m.origin ≠ .started) ∧
      requestCommand f.kind f.tag f.body = none ∧ f.tag = 0) ∧
    (∃ (s : State) (f : RequestFrame), s.link.buffer = [f] ∧
      (∀ m ∈ s.link.transmit, m.origin ≠ .taken ∧ m.origin ≠ .started) ∧
      requestCommand f.kind f.tag f.body = none ∧ f.tag ≠ 0) := by
  refine ⟨⟨0x22, _, rfl⟩, ⟨0x17, by decide⟩, ⟨base, rfl⟩, ⟨base.replied 1 2 .ok [], _, List.mem_cons_self, rfl⟩,
    ⟨State.reset, _, List.mem_cons_self, rfl⟩,
    ⟨withLink fun l => { l with buffer := [⟨1, 2, []⟩], transmit := [⟨0, 0xF1, [], .ready⟩] }, _, _, rfl, by decide, ?_, rfl⟩,
    ⟨withLink fun l => { l with buffer := [⟨0, 0x23, []⟩] }, _, rfl, by decide, rfl, rfl⟩,
    ⟨withLink fun l => { l with buffer := [⟨1, 0x23, []⟩] }, _, rfl, by decide, rfl, by decide⟩⟩
  decide

/-- Sending: nothing to send; one message; the last message after RESET_PART; a READY notice to make; and each of the
three reasons against one. -/
theorem witness_Sending :
    (∃ s : State, s.link.transmit = []) ∧
    (∃ (s : State) (m : Message), s.link.transmit = [m] ∧ s.link.resetting = false) ∧
    (∃ (s : State) (m : Message) (l : List Message), s.link.transmit = m :: l ∧ s.link.resetting = true ∧ l ≠ []) ∧
    (∃ (s : State) (m : Message), s.link.transmit = [m] ∧ s.link.resetting = true) ∧
    (∃ s : State, s.link.transmit = [] ∧ s.link.readyPending ≠ 0 ∧ s.link.resetting = false) ∧
    (∃ s : State, s.link.transmit ≠ []) ∧ (∃ s : State, s.link.readyPending = 0) ∧
    ∃ s : State, s.link.resetting = true :=
  ⟨⟨base, rfl⟩, ⟨State.reset, _, rfl, rfl⟩,
    ⟨withLink fun l => { l with resetting := true, transmit := [startedNotice .power, startedNotice .pin] }, _, _, rfl,
      rfl, by decide⟩,
    ⟨withLink fun l => { l with resetting := true, transmit := [startedNotice .power] }, _, rfl, rfl⟩,
    ⟨withLink fun l => { l with readyPending := 8 }, rfl, by decide, rfl⟩, ⟨State.reset, by decide⟩, ⟨base, rfl⟩,
    ⟨withLink fun l => { l with resetting := true }, rfl⟩⟩

/-- IdentityAndTime and Counters: a tag; the first group that does not exist, for reading and for clearing; the first
and the last group of a lane with the first lane that does not exist; and the first port that does not exist. -/
theorem witness_Counters :
    (∃ tag : Byte, tag ≠ 0) ∧ (∃ g : Byte, 5 < g.toNat ∧ ¬ 6 < g.toNat) ∧ (∃ g : Byte, 6 < g.toNat) ∧
    (∃ g l : Byte, 1 ≤ g.toNat ∧ g.toNat ≤ 4 ∧ 3 < l.toNat ∧ g = 1) ∧
    (∃ g l : Byte, 1 ≤ g.toNat ∧ g.toNat ≤ 4 ∧ 3 < l.toNat ∧ g = 4) ∧ ∃ p : Byte, 1 < p.toNat :=
  ⟨⟨1, by decide⟩, ⟨6, by decide⟩, ⟨7, by decide⟩, ⟨1, 4, by decide⟩, ⟨4, 4, by decide⟩, ⟨2, by decide⟩⟩

/-- A queue that holds n events like the one given. -/
def queueOf (n : Nat) (r : EventRecord) : State := withQueue fun x => { x with events := List.replicate n r }

/-- A store whose shared pool is full: no reserve, and 256 events of the record given in lane 0. -/
def fullStore (r : EventRecord) : EventStore :=
  { base.store with
    queues := ⟨{ LaneQueue.reset with reserve := 0, events := List.replicate 256 r }, { LaneQueue.reset with reserve := 0 },
      { LaneQueue.reset with reserve := 0 }, { LaneQueue.reset with reserve := 0 }⟩ }

/-- A BULK event record and a CRITICAL one. -/
def bulkRecord : EventRecord := record .bulk (.symbol .a 0 .steady [0x35] none)
def criticalRecord : EventRecord := record .critical .attendantOn

/-- Admission: the tests in order. A lane at its lane limit; one below the reserve; at the reserve, with the pool open;
with the pool full, a CRITICAL event with an event to evict, and with none; a limited class with the pool full, and at
its shared limit. -/
theorem witness_Admission :
    (∃ (st : EventStore) (e : Event) (l : Nat), st.laneLimits.of e.cls = some l ∧ l = st.occ 0) ∧
    (∃ (st : EventStore) (e : Event) (l : Nat), st.laneLimits.of e.cls = some l ∧ st.occ 0 < l ∧
      st.occ 0 < (st.queues.get 0).reserve) ∧
    (∃ (st : EventStore) (e : Event) (l : Nat), st.laneLimits.of e.cls = some l ∧ st.occ 0 < l ∧
      (st.queues.get 0).reserve = st.occ 0 ∧ st.sharedUsage < st.poolSize ∧
      ∃ m, st.sharedLimits.of e.cls = some m ∧ st.sharedUsage < m) ∧
    (∃ (st : EventStore) (e : Event), st.laneLimits.of e.cls = none ∧ (st.queues.get 0).reserve ≤ st.occ 0 ∧
      st.poolSize ≤ st.sharedUsage ∧ e.cls = .critical ∧ ∃ r ∈ (st.queues.get 0).events, r.event.cls ≠ .critical) ∧
    (∃ (st : EventStore) (e : Event), st.laneLimits.of e.cls = none ∧ (st.queues.get 0).reserve ≤ st.occ 0 ∧
      st.poolSize ≤ st.sharedUsage ∧ e.cls = .critical ∧ ∀ r ∈ (st.queues.get 0).events, r.event.cls = .critical) ∧
    (∃ (st : EventStore) (e : Event) (l m : Nat), st.laneLimits.of e.cls = some l ∧ st.occ 0 < l ∧
      (st.queues.get 0).reserve ≤ st.occ 0 ∧ st.sharedLimits.of e.cls = some m ∧ m = st.sharedUsage ∧
      st.sharedUsage < st.poolSize ∧ e.cls ≠ .critical) :=
  ⟨⟨(queueOf 32 bulkRecord).store, bulkRecord.event, 32, rfl, by decide +kernel⟩,
    ⟨(queueOf 15 bulkRecord).store, bulkRecord.event, 32, rfl, by decide +kernel, by decide +kernel⟩,
    ⟨(queueOf 16 bulkRecord).store, bulkRecord.event, 32, rfl, by decide +kernel, by decide +kernel, by decide +kernel,
      128, rfl, by decide +kernel⟩,
    ⟨fullStore bulkRecord, criticalRecord.event, rfl, by decide +kernel, by decide +kernel, rfl, bulkRecord,
      by decide +kernel, by decide⟩,
    ⟨fullStore criticalRecord, criticalRecord.event, rfl, by decide +kernel, by decide +kernel, rfl, by decide +kernel⟩,
    ⟨{ (queueOf 16 bulkRecord).store with sharedLimits := ⟨0, 0, 0⟩ }, bulkRecord.event, 32, 0, rfl, by decide +kernel,
      by decide +kernel, rfl, by decide +kernel, by decide +kernel, by decide⟩⟩

/-- Eviction: the youngest event evicted, one with a CRITICAL event behind it, and a queue with none to evict. -/
theorem witness_Eviction :
    (∃ (x : LaneQueue) (y : EventRecord), x.events = [] ++ y :: [] ∧ y.event.cls ≠ .critical) ∧
    (∃ (x : LaneQueue) (y r : EventRecord), x.events = [y] ++ y :: [r] ∧ y.event.cls ≠ .critical ∧
      r.event.cls = .critical) ∧
    ∃ x : LaneQueue, x.events ≠ [] ∧ ∀ r ∈ x.events, r.event.cls = .critical :=
  ⟨⟨{ LaneQueue.reset with events := [bulkRecord] }, bulkRecord, rfl, by decide⟩,
    ⟨{ LaneQueue.reset with events := [bulkRecord, bulkRecord, criticalRecord] }, bulkRecord, criticalRecord, rfl,
      by decide, rfl⟩,
    ⟨{ LaneQueue.reset with events := [criticalRecord] }, by decide, by decide⟩⟩

/-- AdmissionHandsOn: an event refused; an event admitted with no wait, with a wait for other sources, and with a wait
for its own. -/
theorem witness_AdmissionHandsOn :
    (∃ (s : State) (e : Event), (s.store.offer 0 e false).2 = false) ∧
    (∃ (s : State) (e : Event), (s.store.offer 0 e false).2 = true ∧ (s.store.queues.get 0).wait = none) ∧
    (∃ (s : State) (e : Event) (w : Wait), (s.store.offer 0 e false).2 = true ∧ (s.store.queues.get 0).wait = some w ∧
      w.sources.getLsbD e.body.source.index = false) ∧
    ∃ (s : State) (e : Event) (w : Wait), (s.store.offer 0 e false).2 = true ∧ (s.store.queues.get 0).wait = some w ∧
      w.sources.getLsbD e.body.source.index = true :=
  ⟨⟨queueOf 32 bulkRecord, bulkRecord.event, by decide +kernel⟩,
    ⟨queueOf 31 bulkRecord, bulkRecord.event, by decide +kernel, rfl⟩,
    ⟨withQueue fun x => { x with wait := some { waiting with sources := 1 } }, criticalRecord.event, _,
      by decide +kernel, rfl, by decide⟩,
    ⟨withQueue fun x => { x with wait := some waiting }, criticalRecord.event, _, by decide +kernel, rfl, by decide⟩⟩

/-- SetAdmission: settings at their ends and beyond, a division that fits, and one that does not: 16 events held, no
reserve for them, and reserves of 32 for the other lanes leave room, while 256 held with reserves elsewhere do not. -/
theorem witness_SetAdmission :
    (∃ a : AdmissionSettings, (∀ q, a.reserves.get q < 256 ∧ a.watermarks.get q < 65536) ∧
      (a.laneLimits.entry < 65536 ∧ a.laneLimits.scan < 65536 ∧ a.laneLimits.bulk < 65536) ∧
      (a.sharedLimits.entry < 65536 ∧ a.sharedLimits.scan < 65536 ∧ a.sharedLimits.bulk < 65536) ∧
      a.watermarks.lane0 = 65535 ∧ a.reserves.lane0 = 0) ∧
    (∃ (s : State) (g : Lanes Nat), s.store.occ 0 = 16 ∧
      (laneSum fun q => s.store.occ q - g.get q) ≤ 256 - (laneSum fun q => g.get q)) ∧
    ∃ (s : State) (g : Lanes Nat),
      256 - (laneSum fun q => g.get q) < (laneSum fun q => s.store.occ q - g.get q) :=
  ⟨⟨⟨⟨0, 1, 32, 255⟩, ⟨0, 1, 65535⟩, ⟨0, 1, 65535⟩, ⟨65535, 0, 1, 256⟩⟩, by decide +kernel⟩,
    ⟨queueOf 16 bulkRecord, ⟨0, 32, 32, 32⟩, by decide +kernel⟩,
    ⟨{ base with store := fullStore bulkRecord }, ⟨0, 1, 0, 0⟩, by decide +kernel⟩⟩

/-- Fetch and Flush: a tag (their other hypotheses name the queue); the largest record; a queue that holds events and one that does not, each
with an L_q to drop. -/
theorem witness_Fetch_Flush :
    (∃ tag : Byte, tag ≠ 0) ∧
    (∃ (r : EventRecord) (p : PortId) (d : List Byte) (v : ValueRecord),
      r.event.body = .symbol p 1 .flood d (some v) ∧ d.length = 48 ∧ (v.item.getD []).length = 12 ∧ r.size = 89) ∧
    (∃ s : State, (s.store.queues.get 0).events ≠ [] ∧ (s.store.queues.get 0).lost = 3) ∧
    ∃ s : State, (s.store.queues.get 0).events = [] ∧ (s.store.queues.get 0).lost = 3 :=
  ⟨⟨1, by decide⟩,
    ⟨record .bulk (.symbol .b 1 .flood (List.replicate 48 0x35)
      (some ⟨.valid, .price, 2, some 999999, some (List.replicate 12 0x39)⟩)), _, _, _, rfl, rfl, rfl, rfl⟩,
    ⟨withQueue fun x => { x with events := [criticalRecord], lost := 3 }, by decide +kernel, rfl⟩,
    ⟨withQueue fun x => { x with lost := 3 }, rfl, rfl⟩⟩

/-- Awaiting: bad bodies at their edges; a body one byte too short for a timeout, and one that holds it; a wait pending; an event of the set, behind one of another source; none; and a
wait at its expiry, before it, with no expiry, and none. -/
theorem witness_Awaiting :
    (∃ b : List Byte, b.length ≠ 6 ∧ b.length = 5) ∧ (∃ l : List Byte, l.length < 5 ∧ l.length = 4) ∧
    (∃ (l : List Byte) (m : Byte) (t : BitVec 32), l = m :: wordBytes t ++ [] ∧ min 600000 t.toNat = 600000) ∧
    (∃ l : Byte, 3 < l.toNat) ∧
    (∃ m : Byte, m = 0) ∧ (∃ m : Byte, 63 < m.toNat) ∧ (∃ m : Byte, 0 < m.toNat ∧ m.toNat < 64 ∧ m.toNat = 63) ∧
    (∃ s : State, (s.store.queues.get 0).wait.isSome = true) ∧
    (∃ (s : State) (m : Byte) (o r : EventRecord), 0 < m.toNat ∧ m.toNat < 64 ∧ (s.store.queues.get 0).wait = none ∧
      (s.store.queues.get 0).events = [o] ++ r :: [] ∧ m.getLsbD r.event.body.source.index = true ∧
      m.getLsbD o.event.body.source.index = false) ∧
    (∃ (s : State) (m : Byte), 0 < m.toNat ∧ m.toNat < 64 ∧ (s.store.queues.get 0).wait = none ∧
      (s.store.queues.get 0).events ≠ [] ∧
      ∀ r ∈ (s.store.queues.get 0).events, m.getLsbD r.event.body.source.index = false) ∧
    (∃ (s : State) (w : Wait) (e : Time), (s.store.queues.get 0).wait = some w ∧ w.expiry = some e ∧
      reached s.time e = true ∧ s.time = e) ∧
    (∃ s : State, (s.store.queues.get 0).wait ≠ none ∧ ∀ w e, (s.store.queues.get 0).wait = some w →
      w.expiry = some e → reached s.time e = false) ∧
    ∃ s : State, (s.store.queues.get 0).wait = none := by
  refine ⟨⟨List.replicate 5 0, by decide⟩, ⟨List.replicate 4 0, by decide⟩, ⟨_, 1, 600001, rfl, by decide⟩, ⟨4, by decide⟩, ⟨0, rfl⟩, ⟨64, by decide⟩, ⟨63, by decide⟩,
    ⟨withQueue fun x => { x with wait := some waiting }, rfl⟩,
    ⟨withQueue fun x => { x with events := [criticalRecord, bulkRecord] }, 4, criticalRecord, bulkRecord, by decide,
      by decide, rfl, rfl, by decide, by decide⟩,
    ⟨queueOf 1 criticalRecord, 4, by decide, by decide, rfl, by decide, by decide⟩,
    ⟨{ withQueue (fun x => { x with wait := some waiting }) with time := 50 }, waiting, 50, rfl, rfl, by decide, rfl⟩,
    ⟨{ withQueue (fun x => { x with wait := some waiting }) with time := 49 }, by simp [withQueue, State.withQueue,
      EventStore.withQueue, Lanes.set, Lanes.get], ?_⟩, ⟨base, rfl⟩⟩
  intro w e h h'
  obtain rfl : waiting = w := Option.some.inj h
  obtain rfl : (50 : Time) = e := Option.some.inj h'
  decide

/-- A subject: the symbol "5" of code 3 at port A of lane 0, in position SALE. -/
def scanned : Subject :=
  { lane := 0, body := .symbol .a 3 .steady [0x35] none, keylock := .sale, elevated := false }

/-- The state after reset with one rule, rule 63. -/
def withRule (r : RuleRecord) : State := { base with table := base.table.withRule 63 (some r) }

/-- A record whose action modes are the ones given, and whose action values name what exists. -/
def acting (m : ActionModes) : RuleRecord := { plainRule with modes := m }

/-- RuleSearch: a claim by a SET and by a DEFAULT, behind a matching rule that claims nothing; no claim; and a table
with no rule. -/
theorem witness_RuleSearch :
    (∃ (t : ClassTable) (r r' : RuleRecord), t.rule 63 = some r ∧ r.fits scanned = true ∧ r.modes.tag = .set ∧
      t.rule 0 = some r' ∧ r'.fits scanned = true ∧ r'.modes.tag = .off ∧
      ∀ (m : Fin 64), m < 63 → m ≠ 0 → t.rule m = none) ∧
    (∃ (t : ClassTable) (r : RuleRecord), t.rule 63 = some r ∧ r.fits scanned = true ∧ r.modes.tag = .default) ∧
    (∃ t : ClassTable, t.rule 63 = some plainRule ∧ plainRule.fits scanned = true ∧ plainRule.modes.tag = .off) ∧
    ∃ s : State, ∀ n : Fin 64, s.table.rule n = none :=
  ⟨⟨(withRule (acting ⟨.off, .off, .set, .off, .off, .off⟩)).table.withRule 0 (some plainRule), _, _, rfl,
      by decide +kernel, rfl, rfl, by decide +kernel, rfl, by decide +kernel⟩,
    ⟨(withRule (acting ⟨.off, .off, .default, .off, .off, .off⟩)).table, _, rfl, by decide +kernel, rfl⟩,
    ⟨(withRule plainRule).table, rfl, by decide +kernel, rfl⟩, ⟨base, by decide +kernel⟩⟩

/-- A rule whose six action modes are the ones given is the only one of its table, and matches every event. -/
theorem claimedBy_only (r : RuleRecord) (x : Subject) (mode : ActionModes → ActionMode) (hf : r.fits x = true)
    (hm : mode r.modes ≠ .off) : (withRule r).table.claimedBy x mode r := by
  have h : ∀ m : Fin 64, m < 63 → (withRule r).table.rule m = none := by
    intro m hm
    have : ∀ m : Fin 64, m < 63 → base.table.rule m = none := by decide +kernel
    rw [← this m hm]
    simp only [withRule, ClassTable.rule, ClassTable.withRule, Vector.get]
    have hne : (63 : Nat) ≠ m.val := fun e => absurd hm (by simp only [Fin.lt_def]; omega)
    exact Vector.getElem_set_ne _ _ hne
  refine ⟨63, ?_, hf, hm, fun m r' hm hr => ?_⟩
  · exact Vector.getElem_set_self _
  · rw [h m hm] at hr
    cases hr

/-- RuleSearch, its clause of the six actions: an event of lane 0 that one rule claims whole, by SET with values at the
ends of their ranges, by SET with the other DISPOSE values and outputs, and by DEFAULT; and one that nothing claims. -/
theorem witness_RuleSearch_actions :
    ∃ x : Subject,
      (∀ r : RuleRecord, x.keylock = ((withRule r).keyboards.get 0).keylock.position ∧ x.lane = 0 ∧
        (x.elevated = true ↔ x.keylock = .supervisor ∨ x.keylock = .service ∨
          ((withRule r).modes.get 0).attendant = true)) ∧
      (∃ r : RuleRecord, r.modes = ⟨.set, .set, .set, .set, .set, .set⟩ ∧ r.disposeValue = 1 ∧ r.redirectLane = laneByte 3 ∧ r.classValue = 3 ∧
        r.decodeProfile = 7 ∧ r.signalOutput = 1 ∧ r.signalPattern = 7 ∧ r.countIndex = 31 ∧
        (withRule r).table.claimedBy x ActionModes.dispose r ∧ (withRule r).table.claimedBy x ActionModes.cls r ∧
        (withRule r).table.claimedBy x ActionModes.tag r ∧ (withRule r).table.claimedBy x ActionModes.decode r ∧
        (withRule r).table.claimedBy x ActionModes.signal r ∧ (withRule r).table.claimedBy x ActionModes.count r) ∧
      (∃ r : RuleRecord, r.modes = ⟨.set, .set, .set, .set, .set, .set⟩ ∧ r.disposeValue = 0 ∧ r.signalOutput = 0 ∧
        (withRule r).table.claimedBy x ActionModes.dispose r ∧ (withRule r).table.claimedBy x ActionModes.signal r) ∧
      (∃ r : RuleRecord, r.modes = ⟨.set, .set, .set, .set, .set, .set⟩ ∧ r.disposeValue = 2 ∧ (withRule r).table.claimedBy x ActionModes.dispose r) ∧
      (∃ r : RuleRecord, r.modes = ⟨.default, .default, .default, .default, .default, .default⟩ ∧
        (withRule r).table.claimedBy x ActionModes.cls r) ∧
      base.table.unclaimed x ActionModes.count := by
  refine ⟨{ scanned with keylock := .unknown },
    fun r => ⟨rfl, rfl, Iff.intro (fun h => by cases h) fun h => by rcases h with h | h | h <;> cases h⟩,
    ⟨{ acting ⟨.set, .set, .set, .set, .set, .set⟩ with
        disposeValue := 1, redirectLane := 3, classValue := 3, decodeProfile := 7, signalOutput := 1, signalPattern := 7,
        countIndex := 31 }, rfl, rfl, rfl, rfl, rfl, rfl, rfl, rfl, ?_, ?_, ?_, ?_, ?_, ?_⟩,
    ⟨acting ⟨.set, .set, .set, .set, .set, .set⟩, rfl, rfl, rfl, ?_, ?_⟩,
    ⟨{ acting ⟨.set, .set, .set, .set, .set, .set⟩ with disposeValue := 2 }, rfl, rfl, ?_⟩,
    ⟨acting ⟨.default, .default, .default, .default, .default, .default⟩, rfl, ?_⟩, ?_⟩
  all_goals first
    | exact claimedBy_only _ _ _ (by decide +kernel) (by decide)
    | exact fun n r hr => by
        have h : ∀ n : Fin 64, base.table.rule n = none := by decide +kernel
        rw [h n] at hr
        cases hr

/-- ClassificationStages: an event that is no symbol; one counted in flow counter 31 or in none, one discarded, one
redirected and one delivered. -/
theorem witness_ClassificationStages :
    (∃ b : EventBody, ∀ p code g data v, b ≠ .symbol p code g data v) ∧
    (∃ s : State, (s.actionsFor 0 .attendantOn).count = some 31) ∧
    (∃ s : State, (s.actionsFor 0 .attendantOn).count = none ∧ (s.actionsFor 0 .attendantOn).dispose = .deliver) ∧
    (∃ s : State, (s.actionsFor 0 .attendantOn).dispose = .discard) ∧
    ∃ s : State, (s.actionsFor 0 .attendantOn).dispose = .redirect 3 :=
  ⟨⟨.attendantOn, fun _ _ _ _ _ h => by cases h⟩,
    ⟨withRule { acting ⟨.off, .off, .off, .off, .off, .set⟩ with countIndex := 31 }, by decide +kernel⟩,
    ⟨base, by decide +kernel⟩,
    ⟨withRule { acting ⟨.set, .off, .off, .off, .off, .off⟩ with disposeValue := 2 }, by decide +kernel⟩,
    ⟨withRule { acting ⟨.set, .off, .off, .off, .off, .off⟩ with disposeValue := 1, redirectLane := 3 },
      by decide +kernel⟩⟩

/-- A record with every pattern field enabled, one with every action in mode SET, and one with every action but DISPOSE,
all values 0. -/
def allFields : RuleRecord :=
  { plainRule with enables := ⟨true, true, true, true, true, true, true, true, true, true⟩ }
def allActions : RuleRecord := acting ⟨.set, .set, .set, .set, .set, .set⟩
def noDispose : RuleRecord := acting ⟨.off, .set, .set, .set, .set, .set⟩

/-- No value of the record is one that test 3 of R45 refuses, spelled as WriteRule spells it. -/
abbrev legal (r : RuleRecord) : Prop :=
  ¬((r.enables.lanes = true ∧ 15 < r.lanes.toNat) ∨ (r.enables.sources = true ∧ 63 < r.sources.toNat) ∨
    (r.enables.keylock = true ∧ 31 < r.keylock.toNat) ∨ (r.enables.privilege = true ∧ 1 < r.privilege.toNat) ∨
    (r.enables.prefixes = true ∧ ∃ e ∈ r.prefixEntries.toList, e ≠ 0 ∧ (e.toNat < 0x20 ∨ 0x7E < e.toNat)) ∨
    (r.enables.grades = true ∧ 7 < r.grades.toNat) ∨ (r.enables.transitions = true ∧ 15 < r.transitions.toNat) ∨
    (r.modes.dispose = .set ∧ 2 < r.disposeValue.toNat) ∨ (r.modes.cls = .set ∧ 3 < r.classValue.toNat) ∨
    (r.modes.signal = .set ∧ 1 < r.signalOutput.toNat))

/-- WriteRule and ReadAndClearRule: the first index that does not exist; an enable and a mode that do not exist, at the
ends of their places; records that fail each test, with a value that does not exist in each of the ten places, each one
over its range; one that passes at the ends of its ranges, is clamped, and names a lane that is not kept; a rule VALID and
one UNUSED. -/
theorem witness_WriteRule :
    (∃ (n : Byte) (b : List Byte), b.length = 46 ∧ 63 < n.toNat) ∧
    (∃ (b : List Byte) (i : Nat), b.length = 46 ∧ i < 10 ∧ 1 < (b.getD i 0).toNat ∧ i = 9) ∧
    (∃ (b : List Byte) (i : Nat), b.length = 46 ∧ 31 ≤ i ∧ i < 37 ∧ 2 < (b.getD i 0).toNat ∧ i = 36) ∧
    (∃ r : RuleRecord, r.enables.lanes = true ∧ 15 < r.lanes.toNat) ∧
    (∃ r : RuleRecord, r.enables.sources = true ∧ 63 < r.sources.toNat) ∧
    (∃ r : RuleRecord, r.enables.keylock = true ∧ 31 < r.keylock.toNat) ∧
    (∃ r : RuleRecord, r.enables.privilege = true ∧ 1 < r.privilege.toNat) ∧
    (∃ r : RuleRecord, r.enables.prefixes = true ∧ ∃ e ∈ r.prefixEntries.toList, e ≠ 0 ∧ 0x7E < e.toNat) ∧
    (∃ r : RuleRecord, r.enables.prefixes = true ∧ ∃ e ∈ r.prefixEntries.toList, e ≠ 0 ∧ e.toNat < 0x20) ∧
    (∃ r : RuleRecord, r.enables.grades = true ∧ 7 < r.grades.toNat) ∧
    (∃ r : RuleRecord, r.enables.transitions = true ∧ 15 < r.transitions.toNat) ∧
    (∃ r : RuleRecord, r.modes.dispose = .set ∧ 2 < r.disposeValue.toNat) ∧
    (∃ r : RuleRecord, r.modes.cls = .set ∧ 3 < r.classValue.toNat) ∧
    (∃ r : RuleRecord, r.modes.signal = .set ∧ 1 < r.signalOutput.toNat) ∧
    (∃ r : RuleRecord, legal r ∧ r.modes.dispose = .set ∧ r.disposeValue = 1 ∧ 3 < r.redirectLane.toNat) ∧
    (∃ r : RuleRecord, legal r ∧ r.modes.dispose ≠ .set ∧ r.modes.decode = .set ∧ 7 < r.decodeProfile.toNat) ∧
    (∃ r : RuleRecord, legal r ∧ r.modes.dispose ≠ .set ∧ r.modes.signal = .set ∧ 7 < r.signalPattern.toNat) ∧
    (∃ r : RuleRecord, legal r ∧ r.modes.dispose ≠ .set ∧ r.modes.count = .set ∧ 31 < r.countIndex.toNat) ∧
    (∃ r : RuleRecord, legal r ∧ r.modes = plainRule.modes ∧ r.enables.length = true ∧
      clamp 1 48 r.lengthMax.toNat < clamp 1 48 r.lengthMin.toNat) ∧
    (∃ r : RuleRecord, legal r ∧ r.modes = plainRule.modes ∧ r.enables.keyCode = true ∧
      max 1 r.codeHigh.toNat < max 1 r.codeLow.toNat) ∧
    (∃ r : RuleRecord, legal r ∧ r.modes.dispose = .set ∧ r.disposeValue ≠ 1 ∧ r.redirectLane = 9 ∧
      r.modes.decode = .set ∧ r.decodeProfile = 7 ∧ r.modes.signal = .set ∧ r.signalPattern = 7 ∧
      r.modes.count = .set ∧ r.countIndex = 31 ∧ r.enables.length = true ∧ r.lengthMin = 0 ∧ r.lengthMax = 49 ∧
      r.enables.keyCode = true ∧ r.codeLow = 0 ∧ r.codeHigh = 0 ∧ r.enables.prefixes = true ∧ r.prefixLength = 9) ∧
    (∃ r : RuleRecord, legal r ∧ r.modes = plainRule.modes ∧ r.enables.length = false ∧ r.enables.keyCode = false) ∧
    (∃ (s : State) (r : RuleRecord), s.table.rules.get 63 = some r) ∧ ∃ s : State, s.table.rules.get 63 = none :=
  ⟨⟨64, List.replicate 46 0, List.length_replicate, by decide⟩,
    ⟨List.replicate 9 0 ++ 2 :: List.replicate 36 0, 9, by decide⟩,
    ⟨List.replicate 36 0 ++ 3 :: List.replicate 9 0, 36, by decide⟩,
    ⟨{ allFields with lanes := 16 }, by decide⟩, ⟨{ allFields with sources := 64 }, by decide⟩,
    ⟨{ allFields with keylock := 32 }, by decide⟩, ⟨{ allFields with privilege := 2 }, by decide⟩,
    ⟨{ allFields with prefixEntries := Vector.replicate 8 0x7F }, by decide⟩,
    ⟨{ allFields with prefixEntries := Vector.replicate 8 0x1F }, by decide⟩,
    ⟨{ allFields with grades := 8 }, by decide⟩, ⟨{ allFields with transitions := 16 }, by decide⟩,
    ⟨{ allActions with disposeValue := 3 }, by decide⟩, ⟨{ allActions with classValue := 4 }, by decide⟩,
    ⟨{ allActions with signalOutput := 2 }, by decide⟩,
    ⟨{ allActions with disposeValue := 1, redirectLane := 4 }, by decide⟩,
    ⟨{ noDispose with decodeProfile := 8 }, by decide⟩, ⟨{ noDispose with signalPattern := 8 }, by decide⟩,
    ⟨{ noDispose with countIndex := 32 }, by decide⟩,
    ⟨{ allFields with lengthMin := 48, lengthMax := 47 }, by decide⟩,
    ⟨{ allFields with codeLow := 2, codeHigh := 1 }, by decide⟩,
    ⟨{ allFields with
        modes := allActions.modes, redirectLane := 9, decodeProfile := 7, signalPattern := 7, countIndex := 31,
        lengthMax := 49, prefixLength := 9 }, by decide⟩, ⟨plainRule, by decide⟩,
    ⟨withRule plainRule, plainRule, rfl⟩, ⟨base, rfl⟩⟩

/-- A profile that reads a price of two digits, checked by the first digit, and an item of one. -/
def priced : Profile :=
  { valueStart := 2, valueLength := 2, kind := .price, decimals := 2, checkPosition := 1, itemStart := 4,
    itemLength := 1 }

/-- ProfilesAndValues: bad requests at their edges; a profile not in use; each way to be MALFORMED; and a decode whose
check holds and one whose check does not. -/
theorem witness_ProfilesAndValues :
    (∃ (n : Byte) (b : List Byte), b.length = 7 ∧ 7 < n.toNat) ∧ (∃ k : Byte, 2 < k.toNat) ∧
    (∃ p : Profile, p.valueLength = 0) ∧
    (∃ (p : Profile) (data : List Byte), p.valueLength ≠ 0 ∧ data.length + 1 = p.valueStart - 1 + p.valueLength) ∧
    (∃ (p : Profile) (data : List Byte), p.valueLength ≠ 0 ∧
      ∃ b ∈ (data.drop (p.valueStart - 1)).take p.valueLength, isDigit b = false) ∧
    (∃ (p : Profile) (data : List Byte), p.checkPosition ≠ 0 ∧ isDigit (data.getD (p.checkPosition - 1) 0) = false) ∧
    (∃ (p : Profile) (data : List Byte), p.itemLength ≠ 0 ∧ data.length + 1 = p.itemStart - 1 + p.itemLength) ∧
    (∃ (p : Profile) (data v : List Byte), p.valueLength ≠ 0 ∧
      v = (data.drop (p.valueStart - 1)).take p.valueLength ∧ p.valueStart - 1 + p.valueLength ≤ data.length ∧
      (∀ b ∈ v, isDigit b = true) ∧
      (p.checkPosition ≠ 0 ∧ p.checkPosition ≤ data.length ∧ isDigit (data.getD (p.checkPosition - 1) 0) = true) ∧
      (p.itemLength ≠ 0 ∧ p.itemStart - 1 + p.itemLength = data.length ∧
        ∀ b ∈ (data.drop (p.itemStart - 1)).take p.itemLength, isDigit b = true) ∧
      fieldCheckSum v % 10 = digitValue (data.getD (p.checkPosition - 1) 0)) ∧
    (∃ data : List Byte,
      fieldCheckSum ((data.drop (priced.valueStart - 1)).take priced.valueLength) % 10 ≠
        digitValue (data.getD (priced.checkPosition - 1) 0)) ∧
    ∃ v : List Byte, v.length = 6 :=
  ⟨⟨8, List.replicate 7 0, by decide⟩, ⟨3, by decide⟩, ⟨Profile.reset, rfl⟩, ⟨priced, [0x30, 0x31], by decide⟩,
    ⟨priced, [0x30, 0x41, 0x31, 0x31], by decide, 0x41, by decide, by decide⟩,
    ⟨priced, [0x41, 0x31, 0x31, 0x31], by decide, by decide⟩, ⟨priced, [0x30, 0x31, 0x31], by decide, by decide⟩,
    ⟨priced, [0x30, 0x31, 0x31, 0x35], [0x31, 0x31], by decide +kernel⟩, ⟨[0x31, 0x31, 0x31, 0x35], by decide +kernel⟩,
    ⟨List.replicate 6 0x39, by decide⟩⟩

/-- MatrixSamples: no sample taken, for each of the two reasons; a sample with no change that has stood long enough, the
one change standing for 9 ms; a sample that accepts exactly one change, a press, and one that accepts a release; one that
accepts a press and a release; and a first sample, and none due. -/
theorem witness_MatrixSamples :
    (∃ s : State, (s.modes.get 0).current.keyboard = false) ∧ (∃ s : State, (s.keyboards.get 0).firstSample = true) ∧
    (∃ (s : State) (raw : BitVec 128) (k : Keyboard), (s.modes.get 0).current.keyboard = true ∧
      (s.keyboards.get 0).firstSample = false ∧ k = (s.keyboards.get 0).recordRaw s.time raw ∧
      k.previousRaw.getLsbD 5 ≠ k.debounced.getLsbD 5 ∧ elapsed s.time (k.rawChange.get 5) = 9 ∧
      ∀ p : KeyPos, k.previousRaw.getLsbD p.val = k.debounced.getLsbD p.val ∨
        elapsed s.time (k.rawChange.get p) < k.settings.debounceTime) ∧
    (∃ (s : State) (raw : BitVec 128) (k : Keyboard), (s.modes.get 0).current.keyboard = true ∧
      (s.keyboards.get 0).firstSample = false ∧ k = (s.keyboards.get 0).recordRaw s.time raw ∧ k.waiting = [] ∧
      k.blocked = [] ∧ k.debounced.getLsbD 5 = false ∧
      ∀ o : KeyPos, o = 5 ↔ k.previousRaw.getLsbD o.val ≠ k.debounced.getLsbD o.val ∧
        k.settings.debounceTime ≤ elapsed s.time (k.rawChange.get o)) ∧
    (∃ (s : State) (raw : BitVec 128) (k : Keyboard), (s.modes.get 0).current.keyboard = true ∧
      (s.keyboards.get 0).firstSample = false ∧ k = (s.keyboards.get 0).recordRaw s.time raw ∧ k.waiting = [] ∧
      k.blocked = [] ∧ k.debounced.getLsbD 5 = true ∧
      ∀ o : KeyPos, o = 5 ↔ k.previousRaw.getLsbD o.val ≠ k.debounced.getLsbD o.val ∧
        k.settings.debounceTime ≤ elapsed s.time (k.rawChange.get o)) ∧
    (∃ (s : State) (raw d : BitVec 128) (k : Keyboard) (accepted : List KeyPos),
      (s.modes.get 0).current.keyboard = true ∧ (s.keyboards.get 0).firstSample = false ∧
      k = (s.keyboards.get 0).recordRaw s.time raw ∧
      (∀ p : KeyPos, p ∈ accepted ↔ k.previousRaw.getLsbD p.val ≠ k.debounced.getLsbD p.val ∧
        k.settings.debounceTime ≤ elapsed s.time (k.rawChange.get p)) ∧
      accepted.Pairwise (fun a b => a.val < b.val) ∧ accepted = [5, 10] ∧ k.debounced.getLsbD 5 = false ∧
      k.debounced.getLsbD 10 = true ∧
      ∀ p : KeyPos,
        d.getLsbD p.val = if p ∈ accepted then k.previousRaw.getLsbD p.val else k.debounced.getLsbD p.val) ∧
    (∃ s : State, (s.modes.get 0).current.keyboard = true ∧ (s.keyboards.get 0).firstSample = true) ∧
    ∃ s : State, (s.keyboards.get 0).firstSample = false :=
  ⟨⟨base, rfl⟩, ⟨withKeys fun k => { k with firstSample := true }, rfl⟩,
    ⟨{ keyboardOn.withKeyboard 0 { keyed (keyboardOn.keyboards.get 0) with previousRaw := BitVec.twoPow 128 5 } with
        time := 9 }, BitVec.twoPow 128 5, _, rfl, rfl, rfl, by decide +kernel, by decide +kernel, by decide +kernel⟩,
    ⟨{ keyboardOn.withKeyboard 0 { keyed (keyboardOn.keyboards.get 0) with previousRaw := BitVec.twoPow 128 5 } with
        time := 10 }, BitVec.twoPow 128 5, _, rfl, rfl, rfl, rfl, rfl, by decide +kernel, by decide +kernel⟩,
    ⟨{ keyboardOn.withKeyboard 0 { pressed (keyboardOn.keyboards.get 0) with previousRaw := 0 } with time := 10 }, 0, _,
      rfl, rfl, rfl, rfl, rfl, by decide +kernel, by decide +kernel⟩,
    ⟨{ keyboardOn.withKeyboard 0
        { keyed (keyboardOn.keyboards.get 0) with
          previousRaw := BitVec.twoPow 128 5, debounced := BitVec.twoPow 128 10 } with time := 10 },
      BitVec.twoPow 128 5, BitVec.twoPow 128 5, _, [5, 10], rfl, rfl, rfl, by decide +kernel, by decide, rfl,
      by decide +kernel, by decide +kernel, by decide +kernel⟩,
    ⟨keyboardOn.withKeyboard 0 { keyboardOn.keyboards.get 0 with firstSample := true }, rfl, rfl⟩, ⟨base, rfl⟩⟩

/-- Three corners of a rectangle down, and the fourth corner, position 0. -/
def corners (k : Keyboard) : Keyboard :=
  { keyed k with
    keyTable := k.keyTable.set 0 ⟨0x42, false, true⟩
    debounced := BitVec.twoPow 128 1 ||| BitVec.twoPow 128 16 ||| BitVec.twoPow 128 17 }

/-- A keyboard that reports as many keys as its rollover limit, position 5 not among them. -/
def fullKeys (k : Keyboard) : Keyboard :=
  { keyed k with reported := [⟨10, ⟨0x43, false, false⟩, 0⟩, ⟨11, ⟨0x44, false, false⟩, 0⟩], settings :=
    { k.settings with rolloverLimit := 2 } }

/-- KeyTransitions: the five cases of a press, and a release of a reported key and of another. -/
theorem witness_KeyTransitions :
    (∃ (k : Keyboard) (p : KeyPos), (k.keyTable.get p).code = 0) ∧
    (∃ (k : Keyboard) (p : KeyPos), (k.keyTable.get p).code ≠ 0) ∧
    (∃ (k : Keyboard) (p : KeyPos), (k.keyTable.get p).code ≠ 0 ∧ k.suspect p = true) ∧
    (∃ (k : Keyboard) (p : KeyPos), (k.keyTable.get p).code ≠ 0 ∧ k.suspect p = false ∧
      k.reported.length < k.settings.rolloverLimit) ∧
    (∃ (k : Keyboard) (p : KeyPos), (k.keyTable.get p).code ≠ 0 ∧ k.suspect p = false ∧
      k.settings.rolloverLimit = k.reported.length) ∧
    (∃ (k : Keyboard) (r : ReportedKey), k.reported = [] ++ r :: [] ∧ r.position = 5) ∧
    ∃ k : Keyboard, k.reported ≠ [] ∧ ∀ x ∈ k.reported, x.position ≠ 5 :=
  ⟨⟨Keyboard.reset, 127, by decide +kernel⟩, ⟨keyed Keyboard.reset, 5, by decide +kernel⟩,
    ⟨corners Keyboard.reset, 0, by decide +kernel, by decide +kernel⟩,
    ⟨keyed Keyboard.reset, 5, by decide +kernel, by decide +kernel, by decide⟩,
    ⟨fullKeys Keyboard.reset, 5, by decide +kernel, by decide +kernel, rfl⟩,
    ⟨pressed Keyboard.reset, _, rfl, rfl⟩, ⟨fullKeys Keyboard.reset, by decide, by decide⟩⟩

/-- GhostsAndPromotion: the last position of the matrix; blocked keys that stay suspect; one that no longer is, with room
for it and with none; three that no longer are, two of them of one press time, in the order of R64; a keyboard at its
rollover limit with a key waiting; and a sample of a lane with blocked keys. -/
theorem witness_GhostsAndPromotion :
    (∃ (row : Fin 8) (column : Fin 16) (p : KeyPos), p.val = row.val * 16 + column.val ∧ p = 127) ∧
    (∃ k : Keyboard, k.blocked ≠ [] ∧ ∀ b ∈ k.blocked, k.suspect b.position = true) ∧
    (∃ (k : Keyboard) (b : BlockedKey), k.blocked = [] ++ b :: [] ∧ k.suspect b.position = false ∧
      k.reported.length < k.settings.rolloverLimit) ∧
    (∃ (k : Keyboard) (b : BlockedKey), k.blocked = [] ++ b :: [] ∧ k.suspect b.position = false ∧
      k.settings.rolloverLimit ≤ k.reported.length) ∧
    (∃ (k : Keyboard) (l : List BlockedKey), l.Perm (k.blocked.filter fun b => !k.suspect b.position) ∧
      InPressOrder 9 k.blocked ∧ InPressOrder 9 l ∧ l = [⟨7, 1⟩, ⟨3, 2⟩, ⟨4, 2⟩]) ∧
    (∃ k : Keyboard, k.reported.length = k.settings.rolloverLimit ∧ k.waiting ≠ []) ∧
    ∃ (s t : State) (raw : BitVec 128), exec (.keyChangeAccepted 0 raw) s = .next t ∧
      (s.keyboards.get 0).blocked = [⟨7, 1⟩, ⟨3, 2⟩] ∧ InPressOrder s.time (s.keyboards.get 0).blocked ∧
      ∀ b ∈ (s.keyboards.get 0).blocked, b.pressTime ≠ s.time :=
  ⟨⟨7, 15, 127, by decide, rfl⟩,
    ⟨{ corners Keyboard.reset with blocked := [⟨0, 0⟩] }, List.cons_ne_nil _ _, by decide +kernel⟩,
    ⟨{ Keyboard.reset with blocked := [⟨0, 0⟩] }, _, rfl, by decide +kernel, by decide⟩,
    ⟨{ fullKeys Keyboard.reset with blocked := [⟨0, 0⟩] }, _, rfl, by decide +kernel, by decide⟩,
    ⟨{ corners Keyboard.reset with blocked := [⟨0, 0⟩, ⟨7, 1⟩, ⟨3, 2⟩, ⟨4, 2⟩] }, [⟨7, 1⟩, ⟨3, 2⟩, ⟨4, 2⟩],
      by decide +kernel, by unfold InPressOrder; decide, by unfold InPressOrder; decide, rfl⟩,
    ⟨{ fullKeys Keyboard.reset with waiting := [5] }, rfl, by decide⟩,
    ⟨{ keyboardOn.withKeyboard 0 { keyboardOn.keyboards.get 0 with blocked := [⟨7, 1⟩, ⟨3, 2⟩] } with time := 3 }, _, 0,
      rfl, rfl, by unfold InPressOrder; decide, by decide⟩⟩

/-- RepeatsAndMutes: a repeat at its time, one not due, and no typematic key; a mute with the KEYBOARD enable on and
off. -/
theorem witness_RepeatsAndMutes :
    (∃ (s : State) (m : Typematic) (r : ReportedKey), (s.keyboards.get 0).typematic = some m ∧
      reached s.time m.nextRepeat = true ∧ s.time = m.nextRepeat ∧
      (s.keyboards.get 0).reported.find? (fun x => x.position == m.position) = some r) ∧
    (∃ s : State, (s.keyboards.get 0).typematic = some ⟨5, 500⟩ ∧ reached s.time 500 = false ∧ s.time = 499) ∧
    (∃ s : State, (s.keyboards.get 0).typematic = none) ∧
    (∃ s : State, (s.modes.get 0).current.keyboard = true) ∧ ∃ s : State, (s.modes.get 0).current.keyboard = false :=
  ⟨⟨{ withKeys pressed with time := 500 }, _, _, rfl, by decide, rfl, rfl⟩,
    ⟨{ withKeys pressed with time := 499 }, rfl, by decide, rfl⟩, ⟨base, rfl⟩, ⟨keyboardOn, rfl⟩, ⟨base, rfl⟩⟩

/-- KeylockSampled: a pattern that is the debounced one, one that has stood 40 ms and one that has stood 50; of the
latter a valid one of a new position, one of the position held, and an invalid one, after a FAULT and as the first of
all; a fault timer at its time, before it, and stopped. -/
theorem witness_KeylockSampled :
    (∃ l : Keylock, l.debounced = some 3) ∧
    (∃ (s : State) (c : Time), elapsed s.time c < (s.keyboards.get 0).settings.keylockCount * 10 ∧
      elapsed s.time c = 49) ∧
    (∃ (s : State) (c : Time), (s.keyboards.get 0).settings.keylockCount * 10 = elapsed s.time c ∧
      (s.keyboards.get 0).keylock.debounced ≠ some 8 ∧ (s.keyboards.get 0).keylock.position ≠ .service) ∧
    (∃ (s : State) (c : Time), (s.keyboards.get 0).settings.keylockCount * 10 = elapsed s.time c ∧
      (s.keyboards.get 0).keylock.debounced ≠ some 2 ∧ (s.keyboards.get 0).keylock.position = .sale) ∧
    (∃ i : BitVec 4, i ≠ 1 ∧ i ≠ 2 ∧ i ≠ 4 ∧ i ≠ 8) ∧
    (∃ (s : State) (c : Time) (i j : BitVec 4), (s.keyboards.get 0).keylock.debounced ≠ some i ∧
      (s.keyboards.get 0).settings.keylockCount * 10 = elapsed s.time c ∧ i ≠ 1 ∧ i ≠ 2 ∧ i ≠ 4 ∧ i ≠ 8 ∧
      (s.keyboards.get 0).keylock.position = .unknown ∧ (s.keyboards.get 0).keylock.debounced = some j ∧
      j ≠ 1 ∧ j ≠ 2 ∧ j ≠ 4 ∧ j ≠ 8) ∧
    (∃ (s : State) (c : Time) (i : BitVec 4), (s.keyboards.get 0).keylock.debounced = none ∧
      (s.keyboards.get 0).settings.keylockCount * 10 = elapsed s.time c ∧ i ≠ 1 ∧ i ≠ 2 ∧ i ≠ 4 ∧ i ≠ 8) ∧
    (∃ (s : State) (start : Time) (i : BitVec 4), (s.keyboards.get 0).keylock.faultTimer = some start ∧
      (s.keyboards.get 0).keylock.debounced = some i ∧
      (s.keyboards.get 0).settings.keylockFaultTime = elapsed s.time start) ∧
    (∃ s : State, (s.keyboards.get 0).keylock.faultTimer = some 0 ∧
      elapsed s.time 0 < (s.keyboards.get 0).settings.keylockFaultTime ∧ s.time = 499) ∧
    ∃ s : State, (s.keyboards.get 0).keylock.faultTimer = none :=
  ⟨⟨(doubtful Keyboard.reset).keylock, rfl⟩, ⟨{ base with time := 49 }, 0, by decide, by decide⟩,
    ⟨{ withKeys doubtful with time := 50 }, 0, by decide, by decide, by decide⟩,
    ⟨{ withKeys doubtful with time := 50 }, 0, by decide, by decide, rfl⟩, ⟨0, by decide⟩,
    ⟨{ withKeys faultedLock with time := 650 }, 600, 12, 3, by decide, by decide, by decide, by decide, by decide,
      by decide, rfl, rfl, by decide⟩,
    ⟨{ base with time := 50 }, 0, 0, rfl, by decide, by decide⟩,
    ⟨{ withKeys doubtful with time := 500 }, 0, 3, rfl, rfl, by decide⟩,
    ⟨{ withKeys doubtful with time := 499 }, rfl, by decide, rfl⟩, ⟨base, rfl⟩⟩

/-- SetKeyboard: a grain that does not exist; with the KEYBOARD enable on, settings that change the rows and settings
that keep the geometry and the rollover limit; and the enable off. -/
theorem witness_SetKeyboard :
    (∃ grain : Byte, 1 < grain.toNat) ∧
    (∃ (s : State) (g : KeyboardSettings), (s.modes.get 0).current.keyboard = true ∧
      g.rows ≠ (s.keyboards.get 0).settings.rows) ∧
    (∃ (s : State) (g : KeyboardSettings), (s.modes.get 0).current.keyboard = true ∧
      g.rows = (s.keyboards.get 0).settings.rows ∧ g.columns = (s.keyboards.get 0).settings.columns ∧
      g.rolloverLimit = (s.keyboards.get 0).settings.rolloverLimit ∧ g ≠ (s.keyboards.get 0).settings) ∧
    ∃ s : State, (s.modes.get 0).current.keyboard = false :=
  ⟨⟨2, by decide⟩, ⟨keyboardOn, { KeyboardSettings.reset with rows := 1 }, rfl, by decide⟩,
    ⟨keyboardOn, { KeyboardSettings.reset with debounceCount := 255 }, rfl, rfl, rfl, rfl, by decide⟩, ⟨base, rfl⟩⟩

/-- SetKeys: a short body; a count of 0, of 65, and of another length; a lane, a last position and an attribute that do
not exist; and lists of entries that end with the last position, of 1 and of 64 keys; a key reported, and one that is
not, with a code of 0 and with another. -/
theorem witness_SetKeys :
    (∃ b : List Byte, b.length < 3 ∧ b.length = 2) ∧ (∃ n : Byte, n = 0) ∧ (∃ n : Byte, 64 < n.toNat) ∧
    (∃ (n : Byte) (b : List Byte), b.length ≠ 2 * n.toNat) ∧
    (∃ (l n : Byte) (b : List Byte), n ≠ 0 ∧ n.toNat ≤ 64 ∧ b.length = 2 * n.toNat ∧ 3 < l.toNat) ∧
    (∃ (l f n : Byte) (b : List Byte), n ≠ 0 ∧ n.toNat ≤ 64 ∧ b.length = 2 * n.toNat ∧ l.toNat ≤ 3 ∧
      f.toNat + n.toNat = 129) ∧
    (∃ (l f n : Byte) (b : List Byte), n ≠ 0 ∧ n.toNat ≤ 64 ∧ b.length = 2 * n.toNat ∧ l.toNat ≤ 3 ∧
      f.toNat + n.toNat = 128 ∧ ∃ i < n.toNat, 3 < (b.getD (2 * i + 1) 0).toNat) ∧
    (∃ (f : Byte) (l : List KeyEntry), l.length = 1 ∧ f.toNat + l.length = 128) ∧
    (∃ (f : Byte) (l : List KeyEntry), l.length = 64 ∧ f.toNat + l.length = 128) ∧
    (∃ (k : Keyboard) (p : KeyPos) (f : Byte) (l : List KeyEntry) (e : KeyEntry), f.toNat ≤ p.val ∧
      l[p.val - f.toNat]? = some e ∧ k.isReported p = true) ∧
    (∀ (k : Keyboard) (f : Byte) (l : List KeyEntry), ∃ stays : KeyPos → Bool, ∀ p : KeyPos, stays p = true ↔
      p.val < f.toNat ∨ f.toNat + l.length ≤ p.val ∨ k.isReported p = true ∨
        ∃ e, l[p.val - f.toNat]? = some e ∧ e.code ≠ 0) ∧
    ∃ (k : Keyboard) (p : KeyPos) (f : Byte) (l : List KeyEntry) (e e' : KeyEntry), f.toNat ≤ p.val ∧
      l[p.val - f.toNat]? = some e ∧ k.isReported p = false ∧ e.code = 0 ∧ e'.code ≠ 0 :=
  ⟨⟨[0, 0], by decide⟩, ⟨0, rfl⟩, ⟨65, by decide⟩, ⟨1, [0], by decide⟩, ⟨4, 1, [0, 0], by decide⟩,
    ⟨3, 128, 1, [0, 0], by decide⟩, ⟨3, 127, 1, [0, 4], by decide, by decide, by decide, by decide, by decide, 0, by decide, by decide⟩,
    ⟨127, [KeyEntry.reset], by decide⟩, ⟨64, List.replicate 64 KeyEntry.reset, List.length_replicate, by decide⟩,
    ⟨pressed Keyboard.reset, 5, 5, [KeyEntry.reset], KeyEntry.reset, by decide, rfl, by decide +kernel⟩,
    fun k f l => by
      classical exact ⟨fun p => decide (p.val < f.toNat ∨ f.toNat + l.length ≤ p.val ∨ k.isReported p = true ∨
        ∃ e, l[p.val - f.toNat]? = some e ∧ e.code ≠ 0), fun p => decide_eq_true_iff⟩,
    ⟨pressed Keyboard.reset, 6, 5, [KeyEntry.reset, KeyEntry.reset], KeyEntry.reset, ⟨1, false, false⟩, by decide, rfl,
      by decide +kernel, rfl, by decide⟩⟩

/-- A line format with a prefix, an id byte and an LRC. -/
def fullFormat : LineFormat := { LineSettings.reset.format with prefixOn := true, idOn := true, lrcOn := true }

/-- Received bytes free of error. -/
def clean (l : List Byte) : List RxByte := l.map fun v => ⟨v, false⟩

/-- FrameReading: a body with a byte in error; one with a wrong prefix; bodies too short for
prefix, id, one character and LRC, by three bytes, by two and by one; and bodies of prefix, id, data and LRC: one byte
short, with a character below and above the range, with a wrong LRC, and good. -/
theorem witness_FrameReading :
    (∃ body : List RxByte, ∃ b ∈ body, b.error = true) ∧
    (∃ (f : LineFormat) (body : List RxByte) (v : Byte), (∀ b ∈ body, b.error = false) ∧
      body.map RxByte.value = [v] ∧ f.prefixOn = true ∧ v ≠ f.prefixByte) ∧
    (∀ body ∈ [clean [0x02], clean [0x02, 0x41], clean [0x02, 0x41, 0x35]], (∀ b ∈ body, b.error = false) ∧
      (body.map RxByte.value).head? = some fullFormat.prefixByte ∧ body.length < 1 + 1 + 1 + 1) ∧
    (∃ (lo : Nat) (data lrc : List Byte), lrc.length = 1 ∧ data.length + 1 = lo ∧
      (clean ([0x02] ++ [0x41] ++ data ++ lrc)).map RxByte.value = [fullFormat.prefixByte] ++ [0x41] ++ data ++ lrc) ∧
    (∃ (lo : Nat) (data : List Byte), lo ≤ data.length ∧ ∃ c ∈ data, c.toNat < 0x20 ∧ c = 0x1F) ∧
    (∃ (lo : Nat) (data : List Byte), lo ≤ data.length ∧ ∃ c ∈ data, 0x7E < c.toNat ∧ c = 0x7F) ∧
    (∃ data lrc : List Byte, (∀ c ∈ data, 0x20 ≤ c.toNat ∧ c.toNat ≤ 0x7E) ∧ 0x20 ∈ data ∧ 0x7E ∈ data ∧
      lrc ≠ [xorAll ([0x41] ++ data)]) ∧
    ∃ data lrc : List Byte, (∀ c ∈ data, 0x20 ≤ c.toNat ∧ c.toNat ≤ 0x7E) ∧ lrc = [xorAll ([0x41] ++ data)] ∧
      fullFormat.lrcOn = true :=
  ⟨⟨[⟨0, true⟩], _, List.mem_cons_self, rfl⟩,
    ⟨fullFormat, clean [3], 3, by decide, rfl, rfl, by decide⟩, by decide, ⟨2, [0x35], [0], rfl, rfl, rfl⟩,
    ⟨1, [0x1F], by decide, _, List.mem_cons_self, by decide⟩, ⟨1, [0x7F], by decide, _, List.mem_cons_self, by decide⟩,
    ⟨[0x20, 0x7E], [0], by decide⟩, ⟨[0x35], [0x74], by decide⟩⟩

/-- A port of lane 0 that has received the bytes given, the last at time 0. -/
def receiving (l : List RxByte) (now : Time) : State :=
  { withPort (fun x => { x with receiverOn := true, framing := .aligned, bytes := l }) with time := now }

/-- ScannerByte: a receiver off; skipping; an overdue gap (52 ms for a limit of 50), and a byte 51 ms after the last; a
frame of 49 bytes, whose next byte is one too many, and one of 48; a terminator of an empty frame, of a bad one and of
a good one. -/
theorem witness_ScannerByte :
    (∃ s : State, (s.port 0 .a).receiverOn = false) ∧
    (∃ s : State, (s.port 0 .a).receiverOn = true ∧ (s.port 0 .a).framing = .skipping) ∧
    (∃ s : State, (s.port 0 .a).receiverOn = true ∧ (s.port 0 .a).framing = .aligned ∧ (s.port 0 .a).bytes ≠ [] ∧
      (s.port 0 .a).line.gapLimit + 1 < elapsed s.time (s.port 0 .a).lastByte ∧ s.time = 52) ∧
    (∃ s : State, (s.port 0 .a).receiverOn = true ∧ (s.port 0 .a).framing = .aligned ∧ (s.port 0 .a).bytes ≠ [] ∧
      elapsed s.time (s.port 0 .a).lastByte = (s.port 0 .a).line.gapLimit + 1 ∧
      (s.port 0 .a).line.format.lengthLimit (s.port 0 .a).frameMax + 1 = (s.port 0 .a).bytes.length + 1) ∧
    (∃ s : State, (s.port 0 .a).receiverOn = true ∧ (s.port 0 .a).framing = .aligned ∧
      (s.port 0 .a).bytes.length + 1 = (s.port 0 .a).line.format.lengthLimit (s.port 0 .a).frameMax ∧
      (s.port 0 .a).line.format.completes (s.port 0 .a).bytes.getLast? ⟨0x35, false⟩ = false) ∧
    (∃ s : State, (s.port 0 .a).receiverOn = true ∧ (s.port 0 .a).framing = .aligned ∧ (s.port 0 .a).bytes = [] ∧
      (s.port 0 .a).bytes.length + 1 ≤ (s.port 0 .a).line.format.lengthLimit (s.port 0 .a).line.maxData ∧
      (s.port 0 .a).line.format.completes (s.port 0 .a).bytes.getLast? ⟨0x0D, false⟩ = true) ∧
    (∃ (s : State) (body : List RxByte), (s.port 0 .a).bytes = body ∧ body ≠ [] ∧
      (s.port 0 .a).line.format.causeOf 1 body = some .byteError) ∧
    ∃ (s : State) (body : List RxByte), (s.port 0 .a).bytes = body ∧ body ≠ [] ∧
      (s.port 0 .a).line.format.causeOf 1 body = none :=
  ⟨⟨base, rfl⟩, ⟨withPort fun x => { x with receiverOn := true }, rfl, rfl⟩,
    ⟨receiving (clean [0x35]) 52, rfl, rfl, List.cons_ne_nil _ _, by decide +kernel, rfl⟩,
    ⟨receiving (clean (List.replicate 49 0x35)) 51, rfl, rfl, List.cons_ne_nil _ _, by decide +kernel, by decide +kernel⟩,
    ⟨receiving (clean (List.replicate 48 0x35)) 0, rfl, rfl, by decide +kernel, by decide +kernel⟩,
    ⟨receiving [] 0, rfl, rfl, rfl, by decide +kernel, by decide +kernel⟩,
    ⟨receiving [⟨0x35, true⟩] 0, _, rfl, List.cons_ne_nil _ _, by decide +kernel⟩,
    ⟨receiving (clean [0x35]) 0, _, rfl, List.cons_ne_nil _ _, by decide +kernel⟩⟩

/-- A CANDIDATE that holds one frame, with the lock count given. -/
def candidate (n : Nat) (x : ScannerPort) : ScannerPort :=
  { x with line := { x.line with lockCount := n }, receiverOn := true, alignment := .candidate, candidateCount := 1,
           hold := [frame5] }

/-- FrameAlignment: each alignment state, below the lock count and at it, by one frame and by two; a bad frame in LOCKED
one short of the loss count and at it, and one that reaches the excess limit, with re-hunt and without, with an excess
reported before and without. -/
theorem witness_FrameAlignment :
    (∃ x : ScannerPort, x.alignment = .hunt ∧ 2 = x.line.lockCount) ∧
    (∃ x : ScannerPort, x.alignment = .candidate ∧ x.candidateCount + 1 < x.line.lockCount) ∧
    (∃ x : ScannerPort, x.alignment = .hunt ∧ x.line.lockCount = 1) ∧
    (∃ x : ScannerPort, x.alignment = .candidate ∧ x.line.lockCount = x.candidateCount + 1) ∧
    (∃ x : ScannerPort, x.alignment = .locked ∧ x.line.lossCount = x.consecutiveBad + 1) ∧
    (∃ x : ScannerPort, x.alignment = .locked ∧ x.consecutiveBad + 1 < x.line.lossCount ∧
      (decide (x.line.excessLimit ≤ x.windowCount + 1) && !x.excessReported) = true ∧ x.line.rehunt = true ∧
      x.windowCount + 1 = x.line.excessLimit) ∧
    (∃ x : ScannerPort, x.alignment = .locked ∧ x.consecutiveBad + 1 < x.line.lossCount ∧
      (decide (x.line.excessLimit ≤ x.windowCount + 1) && !x.excessReported) = true ∧ x.line.rehunt = false) ∧
    (∃ x : ScannerPort, x.alignment = .locked ∧ x.consecutiveBad + 1 < x.line.lossCount ∧
      (decide (x.line.excessLimit ≤ x.windowCount + 1) && !x.excessReported) = false ∧ x.windowCount + 2 = x.line.excessLimit) ∧
    ∃ x : ScannerPort, x.alignment = .locked ∧ x.consecutiveBad + 1 < x.line.lossCount ∧
      (decide (x.line.excessLimit ≤ x.windowCount + 1) && !x.excessReported) = false ∧ x.excessReported = true :=
  ⟨⟨ScannerPort.reset, rfl, rfl⟩, ⟨candidate 3 ScannerPort.reset, rfl, by decide⟩,
    ⟨{ ScannerPort.reset with line := { LineSettings.reset with lockCount := 1 } }, rfl, rfl⟩,
    ⟨candidate 2 ScannerPort.reset, rfl, rfl⟩, ⟨{ lockedPort ScannerPort.reset with consecutiveBad := 2 }, rfl, rfl⟩,
    ⟨{ lockedPort ScannerPort.reset with windowCount := 7 }, rfl, by decide, by decide, rfl, rfl⟩,
    ⟨{ lockedPort ScannerPort.reset with windowCount := 7, line := { LineSettings.reset with rehunt := false } }, rfl,
      by decide, by decide, rfl⟩,
    ⟨{ lockedPort ScannerPort.reset with windowCount := 6 }, rfl, by decide, by decide, rfl⟩,
    ⟨{ lockedPort ScannerPort.reset with windowCount := 9, excessReported := true }, rfl, by decide, by decide, rfl⟩⟩

/-- PortEvents: each alignment state; a receiver on, and off; a gap one over its limit, and at it; a port enable on, and
off; and an error window at its end, before it, and none. -/
theorem witness_PortEvents :
    (∃ x : ScannerPort, x.alignment = .hunt) ∧ (∃ x : ScannerPort, x.alignment = .candidate) ∧
    (∃ x : ScannerPort, x.alignment = .locked) ∧ (∃ s : State, (s.port 0 .a).receiverOn = true) ∧
    (∃ s : State, (s.port 0 .a).receiverOn = false) ∧
    (∃ s : State, (s.port 0 .a).receiverOn = true ∧ (s.port 0 .a).framing = .aligned ∧ (s.port 0 .a).bytes ≠ [] ∧
      (s.port 0 .a).line.gapLimit < elapsed s.time (s.port 0 .a).lastByte ∧ s.time = 51) ∧
    (∃ s : State, (s.port 0 .a).bytes ≠ [] ∧
      elapsed s.time (s.port 0 .a).lastByte = (s.port 0 .a).line.gapLimit) ∧
    (∃ s : State, (s.modes.get 0).current.port .a = false) ∧ (∃ s : State, (s.modes.get 0).current.port .a = true) ∧
    (∃ (s : State) (w : ErrorWindow), (s.port 0 .a).window = some w ∧
      reached s.time (w.start + BitVec.ofNat 32 (w.seconds * 1000)) = true ∧ s.time = 10000) ∧
    (∃ (s : State) (w : ErrorWindow), (s.port 0 .a).window = some w ∧
      reached s.time (w.start + BitVec.ofNat 32 (w.seconds * 1000)) = false ∧ s.time = 9999) ∧
    ∃ s : State, (s.port 0 .a).window = none :=
  ⟨⟨ScannerPort.reset, rfl⟩, ⟨candidate 2 ScannerPort.reset, rfl⟩, ⟨lockedPort ScannerPort.reset, rfl⟩, ⟨scanOn, rfl⟩,
    ⟨base, rfl⟩, ⟨receiving (clean [0x35]) 51, rfl, rfl, List.cons_ne_nil _ _, by decide +kernel, rfl⟩,
    ⟨receiving (clean [0x35]) 50, List.cons_ne_nil _ _, by decide +kernel⟩, ⟨base, rfl⟩, ⟨scanOn, rfl⟩,
    ⟨{ withPort lockedPort with time := 10000 }, _, rfl, by decide, rfl⟩,
    ⟨{ withPort lockedPort with time := 9999 }, _, rfl, by decide, rfl⟩, ⟨base, rfl⟩⟩

/-- ScannerSettings: each field of the line settings that can be refused; a minimum above the maximum, and one equal to
it; the three cases of a request carried out; id maps with a bad entry, with two entries of one id byte, and good, the
last code and 16 entries included; and maps without the id byte and with it once. -/
theorem witness_ScannerSettings :
    (∀ i ∈ [0, 1, 2, 4, 5, 6, 17], ∃ b : List Byte, b.length = 18 ∧ b.getD i 0 = 5) ∧
    (∃ l : LineSettings, l.maxData < l.minData) ∧ (∃ l : LineSettings, l.minData = l.maxData) ∧
    (∃ (s : State) (f : LineFormat), (s.port 0 .a).receiverOn = true ∧ f ≠ (s.port 0 .a).line.format) ∧
    (∃ (s : State) (l : LineSettings), (s.port 0 .a).receiverOn = true ∧ l.format = (s.port 0 .a).line.format ∧
      (s.port 0 .a).framing = .aligned ∧ (s.port 0 .a).bytes ≠ [] ∧
      l.gapLimit < elapsed s.time (s.port 0 .a).lastByte) ∧
    (∃ s : State, (s.port 0 .a).receiverOn = false) ∧
    (∃ m : Fin 16 → Byte × Byte × Byte, ∃ i, 1 < (m i).1.toNat) ∧
    (∃ m : Fin 16 → Byte × Byte × Byte, ∃ i, (m i).1 = 1 ∧ 15 < (m i).2.2.toNat) ∧
    (∃ m : Fin 16 → Byte × Byte × Byte, ∃ i j, i ≠ j ∧ (m i).1 = 1 ∧ (m j).1 = 1 ∧ (m i).2.1 = (m j).2.1) ∧
    (∃ m : Fin 16 → Byte × Byte × Byte, (∀ i, (m i).1 = 0 ∨ ((m i).1 = 1 ∧ (m i).2.2.toNat ≤ 15)) ∧
      (∀ i j, i ≠ j → (m i).1 = 1 → (m j).1 = 1 → (m i).2.1 ≠ (m j).2.1) ∧ (m 15).2.2 = 15 ∧ (m 15).1 = 1) ∧
    (∃ (v : Vector IdEntry 16) (id : Byte), ∀ i : Fin 16, (v.get i).used = true → (v.get i).id ≠ id) ∧
    ∃ v : Vector IdEntry 16, (v.get 15).used = true ∧
      ∀ j : Fin 16, (v.get j).used = true → (v.get j).id = (v.get 15).id → j = 15 :=
  ⟨by
      intro i hi
      refine ⟨List.replicate i 0 ++ 5 :: List.replicate (17 - i) 0, ?_⟩
      revert i
      decide +kernel,
    ⟨{ LineSettings.reset with minData := 48, maxData := 47 }, by decide⟩,
    ⟨{ LineSettings.reset with minData := 48 }, rfl⟩, ⟨scanOn, fullFormat, rfl, by decide⟩,
    ⟨receiving (clean [0x35]) 51, LineSettings.reset, rfl, rfl, rfl, List.cons_ne_nil _ _, by decide +kernel⟩,
    ⟨base, rfl⟩, ⟨fun _ => (2, 0, 0), 0, by decide⟩, ⟨fun _ => (1, 0, 16), 0, by decide⟩,
    ⟨fun _ => (1, 0, 0), 0, 15, by decide⟩,
    ⟨fun i => (1, BitVec.ofNat 8 i.val, 15), by decide +kernel, by decide +kernel, rfl, rfl⟩,
    ⟨Vector.replicate 16 IdEntry.unused, 0, by decide +kernel⟩,
    ⟨(Vector.replicate 16 IdEntry.unused).set 15 ⟨true, 0x41, 1⟩, by decide +kernel, by decide +kernel⟩⟩

/-- CheckerSettings: a set with a code that is not checked, and one with the three that are. -/
theorem witness_CheckerSettings :
    (∃ m : Half, ∃ n : Nat, n ≠ 1 ∧ n ≠ 2 ∧ n ≠ 3 ∧ m.getLsbD n = true ∧ n = 4) ∧
    ∃ m : Half, (∀ n : Nat, m.getLsbD n = true → n = 1 ∨ n = 2 ∨ n = 3) ∧ m = 0x000E := by
  refine ⟨⟨0x0010, 4, by decide⟩, 0x000E, ?_, rfl⟩
  intro n h
  have hn : n < 16 := by
    by_contra hc
    rw [BitVec.getLsbD_of_ge _ _ (by omega)] at h
    exact Bool.false_ne_true h
  interval_cases n <;> revert h <;> decide

/-- Lane 0 with a symbol of port A handed on, the port's id map giving id byte 0x41 the code 1 (EAN13). -/
def handed (f : GoodFrame) (c : Checker) (x : ScannerPort) : State :=
  (base.withChecker 0 { c with inbox := [⟨.a, f⟩] }).withPort 0 .a
    { x with idMap := x.idMap.set 15 ⟨true, 0x41, 1⟩ }

/-- The code and the check set that decide whether lane 0's oldest symbol fails its check digit. -/
def failsNow (s : State) (f : GoodFrame) : Bool :=
  failsCheck ((s.checkers.get 0).checks.get .a) (symbologyOf (s.port 0 .a).idMap f.id) f.data

/-- The recent-symbol list of lane 0: 7 other symbols after the symbol "5" of code 0. -/
def recent8 (t : Time) : List RecentEntry := ⟨0, [0x35], t⟩ :: List.replicate 7 ⟨1, [0x36], 0⟩

/-- SymbolsChecked: nothing handed on; a symbol that fails its check digit, its port not LOCKED, LOCKED below the excess
limit, LOCKED with the excess reported, and LOCKED at the limit; one that bears the inhibit mark; and of the others, a
hold time of 0, a match 499 ms and 500 ms old in a list of 8, and no match in a list of 8. -/
theorem witness_SymbolsChecked :
    (∃ s : State, (s.checkers.get 0).inbox = []) ∧
    (∃ (s : State) (f : GoodFrame), (s.checkers.get 0).inbox = [⟨.a, f⟩] ∧ failsNow s f = true ∧
      (s.port 0 .a).alignment ≠ .locked) ∧
    (∃ (s : State) (f : GoodFrame), (s.checkers.get 0).inbox = [⟨.a, f⟩] ∧ failsNow s f = true ∧
      (s.port 0 .a).alignment = .locked ∧ (s.port 0 .a).windowCount + 2 = (s.port 0 .a).line.excessLimit) ∧
    (∃ (s : State) (f : GoodFrame), (s.checkers.get 0).inbox = [⟨.a, f⟩] ∧ failsNow s f = true ∧
      (s.port 0 .a).alignment = .locked ∧ (s.port 0 .a).excessReported = true) ∧
    (∃ (s : State) (f : GoodFrame), (s.checkers.get 0).inbox = [⟨.a, f⟩] ∧ failsNow s f = true ∧
      (s.port 0 .a).alignment = .locked ∧ (s.port 0 .a).excessReported = false ∧
      (s.port 0 .a).line.excessLimit = (s.port 0 .a).windowCount + 1) ∧
    (∃ (s : State) (f : GoodFrame), (s.checkers.get 0).inbox = [⟨.a, f⟩] ∧ failsNow s f = false ∧ f.inhibited = true) ∧
    (∃ (s : State) (f : GoodFrame), (s.checkers.get 0).inbox = [⟨.a, f⟩] ∧ failsNow s f = false ∧
      f.inhibited = false ∧ (s.checkers.get 0).holdTime = 0) ∧
    (∃ (s : State) (e : RecentEntry) (l : List RecentEntry), failsNow s frame5 = false ∧
      0 < (s.checkers.get 0).holdTime ∧ (s.checkers.get 0).recent = [] ++ e :: l ∧
      (∀ o ∈ l, o.code ≠ 0 ∨ o.data ≠ frame5.data) ∧ e.code = 0 ∧ e.data = frame5.data ∧
      (s.checkers.get 0).recent.length = 8 ∧ elapsed s.time e.time < (s.checkers.get 0).holdTime ∧ s.time = 499) ∧
    (∃ (s : State) (e : RecentEntry) (l : List RecentEntry), (s.checkers.get 0).recent = [] ++ e :: l ∧
      (s.checkers.get 0).holdTime = elapsed s.time e.time) ∧
    ∃ s : State, 0 < (s.checkers.get 0).holdTime ∧ (s.checkers.get 0).recent.length = 8 ∧
      ∀ o ∈ (s.checkers.get 0).recent, o.code ≠ 0 ∨ o.data ≠ [0x37] :=
  ⟨⟨base, rfl⟩,
    ⟨handed { frame5 with id := some 0x41 } Checker.reset ScannerPort.reset, _, rfl, by decide +kernel, by decide⟩,
    ⟨handed { frame5 with id := some 0x41 } Checker.reset { lockedPort ScannerPort.reset with windowCount := 6 }, _, rfl,
      by decide +kernel, rfl, rfl⟩,
    ⟨handed { frame5 with id := some 0x41 } Checker.reset { lockedPort ScannerPort.reset with excessReported := true },
      _, rfl, by decide +kernel, rfl, rfl⟩,
    ⟨handed { frame5 with id := some 0x41 } Checker.reset { lockedPort ScannerPort.reset with windowCount := 7 }, _, rfl,
      by decide +kernel, rfl, rfl, rfl⟩,
    ⟨handed { frame5 with inhibited := true } Checker.reset ScannerPort.reset, _, rfl, by decide +kernel, rfl⟩,
    ⟨handed frame5 { Checker.reset with holdTime := 0 } ScannerPort.reset, _, rfl, by decide +kernel, rfl, rfl⟩,
    ⟨{ handed frame5 { Checker.reset with recent := recent8 0 } ScannerPort.reset with time := 499 }, _, _,
      by decide +kernel, by decide, rfl, by decide, rfl, rfl, rfl, by decide, rfl⟩,
    ⟨{ handed frame5 { Checker.reset with recent := recent8 0 } ScannerPort.reset with time := 500 }, _, _, rfl, rfl⟩,
    ⟨handed { frame5 with data := [0x37] } { Checker.reset with recent := recent8 0 } ScannerPort.reset, by decide, rfl,
      by decide⟩⟩

/-- ScanMeters: each grade, a burst and a flood with nothing to spare; a flood with pacing on, IDLE and HOLDING; a release
at its time, before it, and none due; and a pacing enable that does not exist. -/
theorem witness_ScanMeters :
    (∃ steady : Nat, 1000 ≤ steady ∧ steady = 1000) ∧ (∃ steady burst : Nat, ¬ 1000 ≤ steady ∧ 1000 = burst) ∧
    (∃ steady burst : Nat, steady = 999 ∧ burst = 999) ∧
    (∃ (s : State) (m : Meter), m = s.meter 0 .a ∧ m.pacingOn = true ∧ m.holds = false ∧
      m.steady + min 65535 (elapsed s.time m.lastArrival) * m.rate < 1000 ∧ m.burst < 1000) ∧
    (∃ (s : State) (t : Time), (s.meter 0 .a).pacing = .holding t ∧ reached s.time t = true ∧ s.time = t) ∧
    (∃ (s : State) (t : Time), (s.meter 0 .a).pacing = .holding t ∧ reached s.time t = false ∧ s.time = 99) ∧
    (∃ s : State, (s.meter 0 .a).pacing = .idle) ∧ ∃ e : Byte, 1 < e.toNat :=
  ⟨⟨1000, by decide⟩, ⟨999, 1000, by decide⟩, ⟨999, 999, rfl, rfl⟩,
    ⟨withMeter fun m => { m with pacingOn := true, steady := 999, burst := 999 }, _, rfl, rfl, rfl, by decide, by decide⟩,
    ⟨{ withMeter (fun m => { m with pacing := .holding 100 }) with time := 100 }, 100, rfl, by decide, rfl⟩,
    ⟨{ withMeter (fun m => { m with pacing := .holding 100 }) with time := 99 }, 100, rfl, by decide, rfl⟩, ⟨base, rfl⟩,
    ⟨2, by decide⟩⟩

/-- DrawerRequests: bodies and lanes that are refused; and states in which OPEN_DRAWER comes to each of its tests. -/
theorem witness_DrawerRequests :
    (∃ b : List Byte, b.length ≠ 2) ∧ (∃ l : Byte, 3 < l.toNat) ∧ (∃ r : Byte, 2 < r.toNat) ∧
    (∃ s : State, (s.modes.get 0).current.drawer = false) ∧
    (∃ s : State, (s.modes.get 0).current.drawer = true ∧ (s.interlocks.conditions.get 0).lockedOut = true) ∧
    (∃ s : State, (s.modes.get 0).current.drawer = true ∧ (s.interlocks.conditions.get 0).lockedOut = false ∧
      s.elevated 0 = false) ∧
    (∃ s : State, (s.modes.get 0).current.drawer = true ∧ (s.drawers.get 0).state ≠ .closed) ∧
    ∃ s : State, (s.modes.get 0).current.drawer = true ∧ (s.interlocks.conditions.get 0).lockedOut = false ∧
      (s.drawers.get 0).state = .closed :=
  ⟨⟨[0, 0, 0], by decide⟩, ⟨4, by decide⟩, ⟨3, by decide⟩, ⟨base, rfl⟩,
    ⟨{ drawerOn with interlocks := { drawerOn.interlocks with conditions := Lanes.all ⟨false, true, false, false⟩ } },
      rfl, rfl⟩,
    ⟨drawerOn, rfl, rfl, by decide +kernel⟩,
    ⟨drawerOn.withDrawer 0 (opened (drawerOn.drawers.get 0)), rfl, by decide⟩, ⟨drawerOn, rfl, rfl, rfl⟩⟩

/-- Lane 0's drawer QUEUED behind lane 1's, its DRAWER enable on and lane 1's off, with the arbiter's slots given. -/
def queued (a b : Option LaneId) : State :=
  { drawerOn with arbiter := { slot1 := a, slot2 := b, waiting := [1, 0] } }

/-- DriveGrant: no request eligible; both slots held; and an eligible request behind one that is not, for each slot that
can be free. -/
theorem witness_DriveGrant :
    (∃ s : State, s.arbiter.waiting ≠ [] ∧ ∀ q ∈ s.arbiter.waiting, s.eligible q = false) ∧
    (∃ s : State, s.arbiter.slot1 ≠ none ∧ s.arbiter.slot2 ≠ none) ∧
    (∃ s : State, s.arbiter.waiting = [1] ++ 0 :: [] ∧ s.eligible 1 = false ∧ s.eligible 0 = true ∧
      s.arbiter.slot1 = none) ∧
    ∃ s : State, s.arbiter.waiting = [1] ++ 0 :: [] ∧ s.eligible 1 = false ∧ s.eligible 0 = true ∧
      s.arbiter.slot1 ≠ none ∧ s.arbiter.slot2 = none :=
  ⟨⟨{ base with arbiter := ⟨none, none, [1, 0]⟩ }, by decide, by decide +kernel⟩,
    ⟨queued (some 2) (some 3), by decide, by decide⟩, ⟨queued none none, rfl, by decide +kernel, by decide +kernel, rfl⟩,
    ⟨queued (some 2) none, rfl, by decide +kernel, by decide +kernel, by decide, rfl⟩⟩

/-- A drawer of lane 0 at time now. -/
def drawerAt (now : Time) (f : Drawer → Drawer) : State := { withDrawer f with time := now }

/-- DrawerTimers: each timer at its time and one millisecond before it. -/
theorem witness_DrawerTimers :
    (∃ (s : State) (e : Time), (s.drawers.get 0).state = .driving e ∧ reached s.time e = true ∧ s.time = e) ∧
    (∃ (s : State) (e : Time), (s.drawers.get 0).state = .driving e ∧ reached s.time e = false ∧ s.time + 1 = e) ∧
    (∃ (s : State) (e : Time), (s.drawers.get 0).cooldownEnd = some e ∧ reached s.time e = true ∧ s.time = e) ∧
    (∃ (s : State) (e : Time), (s.drawers.get 0).cooldownEnd = some e ∧ reached s.time e = false ∧ s.time + 1 = e) ∧
    (∃ (s : State) (e : Time), (s.drawers.get 0).state = .confirming e ∧ reached s.time e = true ∧ s.time = e) ∧
    (∃ (s : State) (e : Time), (s.drawers.get 0).state = .confirming e ∧ reached s.time e = false ∧ s.time + 1 = e) ∧
    (∃ (s : State) (e : Time), (s.drawers.get 0).state = .queued e ∧ reached s.time e = true ∧ s.time = e) ∧
    (∃ (s : State) (e : Time), (s.drawers.get 0).state = .queued e ∧ reached s.time e = false ∧ s.time + 1 = e) ∧
    (∃ (s : State) (e : Time), (s.drawers.get 0).state = .opened 100 (some e) false ∧ reached s.time e = true ∧
      s.time = e) ∧
    ∃ (s : State) (e : Time), (s.drawers.get 0).state = .opened 100 (some e) false ∧ reached s.time e = false ∧
      s.time + 1 = e :=
  ⟨⟨drawerAt 80 fun d => { d with state := .driving 80 }, 80, rfl, by decide, rfl⟩,
    ⟨drawerAt 79 fun d => { d with state := .driving 80 }, 80, rfl, by decide, rfl⟩,
    ⟨drawerAt 80 fun d => { d with cooldownEnd := some 80 }, 80, rfl, by decide, rfl⟩,
    ⟨drawerAt 79 fun d => { d with cooldownEnd := some 80 }, 80, rfl, by decide, rfl⟩,
    ⟨drawerAt 80 fun d => { d with state := .confirming 80 }, 80, rfl, by decide, rfl⟩,
    ⟨drawerAt 79 fun d => { d with state := .confirming 80 }, 80, rfl, by decide, rfl⟩,
    ⟨drawerAt 80 fun d => { d with state := .queued 80 }, 80, rfl, by decide, rfl⟩,
    ⟨drawerAt 79 fun d => { d with state := .queued 80 }, 80, rfl, by decide, rfl⟩,
    ⟨drawerAt 60100 opened, 60100, rfl, by decide, rfl⟩, ⟨drawerAt 60099 opened, 60100, rfl, by decide, rfl⟩⟩

/-- DrawerSense: a raw value that is the debounced one; one that has stood 20 ms; and one that has stood 30 ms, open in
each of the four states and closed in OPEN. -/
theorem witness_DrawerSense :
    (∃ s : State, (s.drawers.get 0).senseOpen = false) ∧
    (∃ (s : State) (change : Time), elapsed s.time change < (s.drawers.get 0).settings.senseCount * 10 ∧
      elapsed s.time change = 29) ∧
    (∃ (s : State) (change : Time), (s.drawers.get 0).senseOpen = false ∧
      (s.drawers.get 0).settings.senseCount * 10 = elapsed s.time change ∧ (s.drawers.get 0).state = .driving 80) ∧
    (∃ s : State, (s.drawers.get 0).senseOpen = false ∧ (s.drawers.get 0).state = .confirming 80) ∧
    (∃ s : State, (s.drawers.get 0).senseOpen = false ∧ (s.drawers.get 0).state = .queued 80) ∧
    (∃ s : State, (s.drawers.get 0).senseOpen = false ∧ (s.drawers.get 0).state = .closed) ∧
    ∃ (s : State) (change : Time), (s.drawers.get 0).senseOpen = true ∧
      (s.drawers.get 0).settings.senseCount * 10 = elapsed s.time change ∧
      (s.drawers.get 0).state = .opened 100 (some 60100) false :=
  ⟨⟨base, rfl⟩, ⟨drawerAt 29 id, 0, by decide, by decide⟩,
    ⟨drawerAt 30 fun d => { d with state := .driving 80 }, 0, rfl, by decide, rfl⟩,
    ⟨withDrawer fun d => { d with state := .confirming 80 }, rfl, rfl⟩,
    ⟨withDrawer fun d => { d with state := .queued 80 }, rfl, rfl⟩, ⟨base, rfl, rfl⟩,
    ⟨drawerAt 1030 opened, 1000, rfl, by decide, rfl⟩⟩

/-- A monitor with the state and the match given, LATCHED or not. -/
def standing (st : MonitorState) (v latched : Bool) : Monitor :=
  { settings := { (watching Monitor.reset).settings with latched := latched, qualify := 3 }, isMatch := v, state := st }

/-- MonitorTransitions: each state; a qualify expiry at its time and before it; monitors that agree with their
conditions, and one that does not. -/
theorem witness_MonitorTransitions :
    (∃ m : Monitor, m.state = .inactive ∧ m.settings.qualify = 0) ∧
    (∃ m : Monitor, m.state = .inactive ∧ m.settings.qualify ≠ 0) ∧ (∃ m : Monitor, m.state = .qualifying 0) ∧
    (∃ m : Monitor, m.state = .active ∧ m.settings.latched = false) ∧
    (∃ m : Monitor, m.state = .active ∧ m.settings.latched = true) ∧
    (∃ (s : State) (e : Time), (s.monitor 0).state = .qualifying 0 ∧
      e = 0 + BitVec.ofNat 32 ((s.monitor 0).settings.qualify * 10) ∧ reached s.time e = true ∧ s.time = e) ∧
    (∃ (s : State) (e : Time), (s.monitor 0).state = .qualifying 0 ∧
      e = 0 + BitVec.ofNat 32 ((s.monitor 0).settings.qualify * 10) ∧ reached s.time e = false ∧ s.time = 29) ∧
    (∃ s : State, ∀ t, (s.monitor 0).state ≠ .qualifying t) ∧ (∃ s : State, s.stale = []) ∧ ∃ s : State, s.stale = [0] :=
  ⟨⟨Monitor.reset, rfl, rfl⟩, ⟨standing .inactive false false, rfl, by decide⟩, ⟨standing (.qualifying 0) true false, rfl⟩,
    ⟨standing .active true false, rfl, rfl⟩, ⟨standing .active true true, rfl, rfl⟩,
    ⟨{ withMonitor (fun _ => standing (.qualifying 0) true false) with time := 30 }, 30, rfl, by decide +kernel,
      by decide, rfl⟩,
    ⟨{ withMonitor (fun _ => standing (.qualifying 0) true false) with time := 29 }, 30, rfl, by decide +kernel,
      by decide, rfl⟩,
    ⟨base, fun _ h => by cases h⟩, ⟨base, by decide +kernel⟩,
    ⟨withMonitor fun _ => standing (.qualifying 0) true false, by decide +kernel⟩⟩

/-- EffectsHandedOn: effects that are what the monitors give; one that is not, and two; and a drawer QUEUED and one that
is not. -/
theorem witness_EffectsHandedOn :
    (∃ s : State, allConditions s.interlocks.monitors = s.interlocks.conditions) ∧
    (∃ s : State,
      effectChanges s.interlocks.conditions (allConditions s.interlocks.monitors) = [((0, .mute), true)]) ∧
    (∃ s : State, 2 = (effectChanges s.interlocks.conditions (allConditions s.interlocks.monitors)).length) ∧
    (∃ s : State, (s.drawers.get 0).state = .queued 80) ∧ ∃ s : State, ∀ e, (s.drawers.get 0).state ≠ .queued e :=
  ⟨⟨base, by decide +kernel⟩, ⟨withMonitor fun _ => standing .active true false, by decide +kernel⟩,
    ⟨withMonitor fun m =>
      { watching m with settings := { (watching m).settings with effects := 3 }, isMatch := true, state := .active },
      by decide +kernel⟩,
    ⟨withDrawer fun d => { d with state := .queued 80 }, rfl⟩, ⟨base, fun _ h => by cases h⟩⟩

/-- SetInterlock: what is refused, at its edges; settings at theirs; and monitors ACTIVE before, and matching at once. -/
theorem witness_SetInterlock :
    (∃ (n : Byte) (b : List Byte), b.length = 15 ∧ 7 < n.toNat) ∧
    (∃ (l : Byte) (b : List Byte), b.length = 13 ∧ 3 < l.toNat) ∧
    (∃ b : Byte, 1 < b.toNat) ∧ (∃ c : Byte, 5 < c.toNat) ∧ (∃ t : Byte, 15 < t.toNat) ∧ (∃ f : Byte, 63 < f.toNat) ∧
    (∃ c kp : Byte, c = 2 ∧ 4 < kp.toNat) ∧ (∃ c pp : Byte, (c = 3 ∨ c = 5) ∧ 1 < pp.toNat) ∧
    (∃ m : MonitorSettings, m.qualify = 65535 ∧ m.queueParam < 65536 ∧ m.condition = .keylockIs ∧
      m.keylockParam.toNat = 4) ∧
    (∃ m : MonitorSettings, m.condition = .pacing ∧ m.portParam.toNat = 1) ∧
    (∃ m : MonitorSettings, m.condition = .queueAtLeast ∧ m.queueParam = 65535) ∧
    (∃ s : State, (s.monitor 0).state = .active) ∧ (∃ s : State, (s.monitor 0).state ≠ .active) ∧
    (∃ (s : State) (g : MonitorSettings), s.matchOf g = false) ∧
    (∃ (s : State) (g : MonitorSettings), s.matchOf g = true ∧ g.qualify = 0) ∧
    ∃ (s : State) (g : MonitorSettings), s.matchOf g = true ∧ g.qualify = 255 :=
  ⟨⟨8, List.replicate 15 0, by decide⟩, ⟨4, List.replicate 13 0, by decide⟩, ⟨2, by decide⟩, ⟨6, by decide⟩,
    ⟨16, by decide⟩, ⟨64, by decide⟩, ⟨2, 5, by decide⟩, ⟨3, 2, by decide⟩,
    ⟨{ Monitor.reset.settings with qualify := 65535, condition := .keylockIs, keylockParam := 4 }, rfl, by decide, rfl,
      rfl⟩,
    ⟨{ Monitor.reset.settings with condition := .pacing, portParam := 1 }, rfl, rfl⟩,
    ⟨{ Monitor.reset.settings with condition := .queueAtLeast, queueParam := 65535 }, rfl, rfl⟩,
    ⟨withMonitor fun _ => standing .active true false, rfl⟩, ⟨base, by decide⟩,
    ⟨base, Monitor.reset.settings, by decide +kernel⟩,
    ⟨base, { (watching Monitor.reset).settings with sense := false }, by decide +kernel, rfl⟩,
    ⟨base, { (watching Monitor.reset).settings with sense := false, qualify := 255 }, by decide +kernel, rfl⟩⟩

/-- ReleaseAndReadInterlocks: the first index that does not exist; and monitors for each of the four cases of
RELEASE_INTERLOCK. -/
theorem witness_ReleaseAndReadInterlocks :
    (∃ n : Byte, 7 < n.toNat) ∧ (∃ s : State, (s.monitor 0).state ≠ .active) ∧
    (∃ s : State, (s.monitor 0).state = .active ∧ (s.monitor 0).isMatch = true) ∧
    (∃ s : State, (s.monitor 0).state = .active ∧ (s.monitor 0).isMatch = false ∧
      (s.monitor 0).settings.effects.getLsbD 3 = true ∧ s.elevated (s.monitor 0).settings.sourceLane = false) ∧
    ∃ s : State, (s.monitor 0).state = .active ∧ (s.monitor 0).isMatch = false ∧
      (s.monitor 0).settings.effects.getLsbD 3 = false :=
  ⟨⟨8, by decide⟩, ⟨base, by decide⟩, ⟨withMonitor fun _ => standing .active true true, rfl, rfl⟩,
    ⟨withMonitor fun m => { watching m with
      settings := { (watching m).settings with effects := 8, latched := true }, state := .active }, rfl, rfl, rfl,
      by decide +kernel⟩,
    ⟨withMonitor fun _ => standing .active false true, rfl, rfl, rfl⟩⟩

/-- Outputs: what SET_OUTPUT refuses, at its edges, and the three host values. -/
theorem witness_Outputs :
    (∃ o : Byte, 3 < o.toNat) ∧ (∃ v : Byte, 2 < v.toNat) ∧ (∃ o v : Byte, 1 < o.toNat ∧ 1 < v.toNat ∧ o = 2 ∧ v = 2) ∧
    ∀ (s : State), ∃ v h, (v, h) ∈ [((0 : Byte), HostValue.off), (1, .on), (2, .blink s.time)] ∧ v = 2 :=
  ⟨⟨4, by decide⟩, ⟨3, by decide⟩, ⟨2, 2, by decide⟩, fun s => ⟨2, .blink s.time, by simp, rfl⟩⟩

/-- LAMP of lane 0 playing the steps given, the first of them until time 10, at time now. -/
def playing (l : List PatternStep) (now : Time) : State :=
  { withLamp (fun o => { o with playing := some ⟨⟨.on, 1⟩, l, 10⟩ }) with time := now }

/-- Patterns: what SET_PATTERN refuses, at its edges; an empty pattern and one of steps; a step that ends with none left
and with one, and a step not yet ended; and nothing playing. -/
theorem witness_Patterns :
    (∃ (n : Byte) (b : List Byte), b.length = 9 ∧ 7 < n.toNat) ∧ (∃ l : Byte, 1 < l.toNat) ∧
    (∃ p : Pattern, p.steps.toList.take p.count = []) ∧
    (∃ (p : Pattern) (a : PatternStep) (l : List PatternStep), p.steps.toList.take p.count = a :: l ∧ p.count = 4) ∧
    (∃ (s : State) (p : Playing), ((s.outputs.get 0).signal .lamp).playing = some p ∧
      reached s.time p.endTime = true ∧ p.rest = [] ∧ s.time = p.endTime) ∧
    (∃ (s : State) (p : Playing) (a : PatternStep), ((s.outputs.get 0).signal .lamp).playing = some p ∧
      reached s.time p.endTime = true ∧ p.rest = [a]) ∧
    (∃ (s : State) (p : Playing), ((s.outputs.get 0).signal .lamp).playing = some p ∧
      reached s.time p.endTime = false ∧ s.time = 9) ∧
    ∃ s : State, ((s.outputs.get 0).signal .lamp).playing = none :=
  ⟨⟨8, List.replicate 9 0, by decide⟩, ⟨2, by decide⟩, ⟨Pattern.reset, rfl⟩,
    ⟨{ Pattern.reset with count := 4 }, _, _, rfl, rfl⟩, ⟨playing [] 10, _, rfl, by decide, rfl, rfl⟩,
    ⟨playing [⟨.off, 1⟩] 10, _, _, rfl, by decide, rfl⟩, ⟨playing [] 9, _, rfl, by decide, rfl⟩, ⟨base, rfl⟩⟩

/-- LaneEnables and AttendantMode: the first target and the first set that do not exist; attendant mode on and off; sets
that differ by one enable and by two. -/
theorem witness_LaneEnables :
    (∃ t : Byte, 1 < t.toNat) ∧ (∃ m : Byte, 15 < m.toNat) ∧ (∃ s : State, (s.modes.get 0).attendant = false) ∧
    (∃ s : State, (s.modes.get 0).attendant = true) ∧
    (∃ (s : State) (new : EnableSet), enableChanges (s.modes.get 0).current new = [(.drawer, true)]) ∧
    ∃ (s : State) (new : EnableSet), (enableChanges (s.modes.get 0).current new).length = 2 :=
  ⟨⟨2, by decide⟩, ⟨16, by decide⟩, ⟨base, rfl⟩, ⟨withMode fun m => { m with attendant := true }, rfl⟩,
    ⟨base, ⟨false, false, false, true⟩, by decide +kernel⟩, ⟨base, ⟨true, false, false, true⟩, by decide +kernel⟩⟩

/-- ReadLaneStatus: a tag. -/
theorem witness_ReadLaneStatus : ∃ tag : Byte, tag ≠ 0 := ⟨1, by decide⟩

/-- ResetLane: a wait to cancel, and none; a drawer QUEUED, and one that is not; attendant mode on, and off; and a
request carried out. -/
theorem witness_ResetLane :
    (∃ s : State, (s.store.queues.get 0).wait = some waiting) ∧ (∃ s : State, (s.store.queues.get 0).wait = none) ∧
    (∃ s : State, ∃ e, (s.drawers.get 0).state = .queued e) ∧
    (∃ s : State, ∀ e, (s.drawers.get 0).state ≠ .queued e) ∧ (∃ s : State, (s.modes.get 0).attendant = true) ∧
    (∃ s : State, (s.modes.get 0).attendant = false) ∧
    ∃ (tag : Byte) (b : List Byte) (s t : State), exec (.resetLane tag b) s = .next t :=
  ⟨⟨withQueue fun x => { x with wait := some waiting }, rfl⟩, ⟨base, rfl⟩,
    ⟨withDrawer fun d => { d with state := .queued 80 }, 80, rfl⟩, ⟨base, fun _ h => by cases h⟩,
    ⟨withMode fun m => { m with attendant := true }, rfl⟩, ⟨base, rfl⟩, ⟨1, [0], base, _, rfl⟩⟩

/-! ### The invariants: states other than the reset state that meet each, and a step from them -/

/-- A state with the command that sends a frame at the front of its queue; every step of it is made. -/
def sending (s : State) : State := { s with pending := [.frameSent] }

/-- QueueAccountingKept: one event admitted and still held, and a command that clears nothing. -/
theorem witness_QueueAccountingKept :
    ∃ s t : State, s.Accounted ∧ (∀ c rest, s.pending = c :: rest → ¬ s.clearsCounters c) ∧ step s = .next t ∧
      s.store.occ 0 = 1 := by
  refine ⟨sending (withQueue fun x => { x with events := [bulkRecord], counters := { x.counters with admitted := 1 } }), _,
    ?_, ?_, rfl, rfl⟩
  · unfold State.Accounted
    decide +kernel
  · intro c rest h
    obtain ⟨rfl, _⟩ := List.cons.inj h
    exact id

/-- StoreFitsKept: the shared pool full to the last slot. -/
theorem witness_StoreFitsKept : ∃ s t : State, s.StoreFits ∧ step s = .next t ∧ s.store.sharedUsage = s.store.poolSize := by
  refine ⟨sending (queueOf 208 bulkRecord), _, ⟨?_, ?_⟩, rfl, ?_⟩ <;> decide +kernel

/-- KeysFitKept: a key reported with the KEYBOARD enable on. -/
theorem witness_KeysFitKept : ∃ s t : State, s.KeysFit ∧ step s = .next t ∧ (s.keyboards.get 0).reported ≠ [] := by
  refine ⟨sending (keyboardOn.withKeyboard 0 (fullKeys (keyboardOn.keyboards.get 0))), _, ?_, rfl, List.cons_ne_nil _ _⟩
  unfold State.KeysFit
  decide +kernel

/-- CapacitiesKept: buckets full; a recent-symbol list of 2; and a receive buffer of 4 frames. -/
theorem witness_CapacitiesKept :
    (∃ s t : State, s.MetersFit ∧ step s = .next t ∧ s.time = 1) ∧
    (∃ s t : State, s.RecentFits ∧ step s = .next t ∧ (s.checkers.get 0).recent.length = 2) ∧
    ∃ s t : State, s.LinkFits ∧ step s = .next t ∧ s.link.buffer.length = 4 := by
  refine ⟨⟨{ sending base with time := 1 }, _, ?_, rfl, rfl⟩,
    ⟨sending (withChecker fun c => { c with recent := [⟨0, [0x35], 0⟩, ⟨0, [0x36], 0⟩] }), _, ?_, rfl, rfl⟩,
    ⟨sending (withLink fun l => { l with buffer := List.replicate 4 ⟨1, 2, []⟩ }), _, ?_, rfl, rfl⟩⟩
  · intro q p
    cases p <;> revert q <;> decide +kernel
  · unfold State.RecentFits
    decide +kernel
  · unfold State.LinkFits
    decide +kernel

/-- A state whose port A of lane 0 is enabled and LOCKED. -/
def lockedState : State := scanOn.withPort 0 .a (lockedPort (scanOn.port 0 .a))

/-- PortsKept: a port LOCKED. -/
theorem witness_PortsKept :
    ∃ s t : State, s.PortsConsistent ∧ s.PortsFollowEnables ∧ step s = .next t ∧ (s.port 0 .a).alignment = .locked := by
  refine ⟨sending lockedState, _, ?_, ?_, rfl, rfl⟩
  · intro q p
    unfold ScannerPort.Consistent
    cases p <;> revert q <;> decide +kernel
  · intro q p
    cases p <;> revert q <;> decide +kernel

/-- Lane 0 drives, lane 1 waits, and lane 2's drawer is open under a lockout. -/
def driving : State :=
  { ((base.withDrawer 0 { Drawer.reset with state := .driving 80 }).withDrawer 1
      { Drawer.reset with state := .queued 2000 }).withDrawer 2 (opened Drawer.reset) with
    arbiter := { slot1 := some 0, slot2 := none, waiting := [1] }
    interlocks :=
      { base.interlocks with
        conditions := base.interlocks.conditions.set 2 { base.interlocks.conditions.get 2 with lockedOut := true } } }

/-- DriveKept: a drawer DRIVING, one QUEUED and one OPEN. -/
theorem witness_DriveKept :
    ∃ s t : State, s.DriveAgrees ∧ s.DrawersFollowSense ∧ s.LockoutHolds ∧ step s = .next t ∧ s.driving = [0] := by
  refine ⟨sending driving, _, ?_, ?_, ?_, rfl, by decide +kernel⟩
  · unfold State.DriveAgrees Arbiter.holds
    decide +kernel
  · unfold State.DrawersFollowSense
    decide +kernel
  · unfold State.LockoutHolds
    decide +kernel

/-- A monitor ACTIVE on a closed drawer, muting the keys of lane 0. -/
def muting : State :=
  let s := withMonitor fun m =>
    { watching m with settings := { (watching m).settings with sense := false }, isMatch := true, state := .active }
  { s with
    interlocks := { s.interlocks with conditions := s.interlocks.conditions.set 0 ⟨true, false, false, false⟩ } }

/-- MonitorsKept: a monitor ACTIVE, its effect in force, and the inhibits of a lane with a port enabled. -/
theorem witness_MonitorsKept :
    (∃ s t : State, s.DriveAgrees ∧ s.MonitorsTrack ∧ s.EffectsTrack ∧ (∀ i, (s.monitor i).Legal) ∧ step s = .next t ∧
      (s.monitor 0).state = .active) ∧
    ∃ s t : State, s.InhibitsTrack ∧ step s = .next t ∧ ((s.outputs.get 0).inhibits.get .a).level = .off := by
  refine ⟨⟨sending muting, _, ?_, ?_, ?_, ?_, rfl, rfl⟩, ⟨sending scanOn, _, ?_, rfl, by decide +kernel⟩⟩
  · unfold State.DriveAgrees Arbiter.holds
    decide +kernel
  · unfold State.MonitorsTrack
    decide +kernel
  · unfold State.EffectsTrack
    decide +kernel
  · have h : (∀ i : MonitorId, i ≠ 0 → (sending muting).monitor i = Monitor.reset) := by decide +kernel
    intro i
    by_cases hi : i = 0
    · subst hi
      exact ⟨rfl, fun _ => rfl⟩
    · rw [h i hi]
      exact (rfl : false = false)
  · intro q p
    cases p <;> revert q <;> decide +kernel

end Sys2Proof.Tests
end

/-!
PROOF. The eviction of R6 and R9 (obligation O13): which event the scan of the queue takes out, and where its loss goes.
-/

namespace Sys2Proof.Machine

/-! ## The scan for the youngest event that is not CRITICAL -/

/-- R6: a queue of CRITICAL events only has nothing to evict. -/
theorem evictYoungest_eq_none_of_critical (l : List EventRecord) (hl : ∀ r ∈ l, r.event.cls = .critical) :
    evictYoungest l = none := by
  induction l with
  | nil => rfl
  | cons r l ih =>
    obtain ⟨hr, hl⟩ := List.forall_mem_cons.1 hl
    simp [evictYoungest, ih hl, hr]

/-- Older events stay as they are in front of an eviction among the younger ones. -/
theorem evictYoungest_append (older : List EventRecord) {l : List EventRecord} {z : List EventRecord × Nat}
    (h : evictYoungest l = some z) : evictYoungest (older ++ l) = some (older ++ z.1, z.2) := by
  induction older with
  | nil => exact h
  | cons r older ih => simp [evictYoungest, ih]

/-- R9: with no event behind the evicted one, its loss and itself are left over for L_q. -/
theorem evictYoungest_append_singleton (older : List EventRecord) {y : EventRecord} (hy : y.event.cls ≠ .critical) :
    evictYoungest (older ++ [y]) = some (older, y.lostBefore + 1) := by
  have last : evictYoungest [y] = some ([], y.lostBefore + 1) := by simp [evictYoungest, hy]
  simpa using evictYoungest_append older last

/-- R9: the event behind the evicted one carries the whole loss, and nothing is left over. -/
theorem evictYoungest_append_cons_cons (older : List EventRecord) {y f : EventRecord} {rest : List EventRecord}
    (hy : y.event.cls ≠ .critical) (hc : ∀ r ∈ f :: rest, r.event.cls = .critical) :
    evictYoungest (older ++ y :: f :: rest) =
      some (older ++ { f with lostBefore := satAdd f.lostBefore (y.lostBefore + 1) } :: rest, 0) := by
  have followed : evictYoungest (y :: f :: rest) =
      some ({ f with lostBefore := satAdd f.lostBefore (y.lostBefore + 1) } :: rest, 0) := by
    rw [evictYoungest, evictYoungest_eq_none_of_critical _ hc]
    simp [hy]
  exact evictYoungest_append older followed

/-! ## The queue after an eviction -/

theorem LaneQueue.evict_of_none {x : LaneQueue} (h : evictYoungest x.events = none) : x.evict = x := by
  simp [LaneQueue.evict, h]

theorem LaneQueue.evict_of_some {x : LaneQueue} {z : List EventRecord × Nat} (h : evictYoungest x.events = some z) :
    x.evict =
      { x with
        events := z.1
        lost := if z.2 = 0 then x.lost else satAdd x.lost z.2
        counters := { x.counters with evicted := x.counters.evicted + 1 } } := by
  simp [LaneQueue.evict, h]

/-- An eviction gives out no sequence number (R2). -/
@[simp] theorem LaneQueue.evict_nextSequence (x : LaneQueue) : x.evict.nextSequence = x.nextSequence := by
  cases h : evictYoungest x.events with
  | none => rw [LaneQueue.evict_of_none h]
  | some z => rw [LaneQueue.evict_of_some h]

/-- R9, no event behind the evicted one: L_q takes the loss. -/
theorem LaneQueue.evict_of_last {x : LaneQueue} {older : List EventRecord} {y : EventRecord}
    (hx : x.events = older ++ [y]) (hy : y.event.cls ≠ .critical) :
    x.evict =
      { x with
        events := older
        lost := satAdd x.lost (y.lostBefore + 1)
        counters := { x.counters with evicted := x.counters.evicted + 1 } } := by
  have h : evictYoungest x.events = some (older, y.lostBefore + 1) := hx ▸ evictYoungest_append_singleton older hy
  simp [LaneQueue.evict_of_some h]

/-- R9, an event behind the evicted one: it takes the loss, and L_q stays. -/
theorem LaneQueue.evict_of_followed {x : LaneQueue} {older rest : List EventRecord} {y f : EventRecord}
    (hx : x.events = older ++ y :: f :: rest) (hy : y.event.cls ≠ .critical)
    (hc : ∀ r ∈ f :: rest, r.event.cls = .critical) :
    x.evict =
      { x with
        events := older ++ { f with lostBefore := satAdd f.lostBefore (y.lostBefore + 1) } :: rest
        counters := { x.counters with evicted := x.counters.evicted + 1 } } := by
  rw [LaneQueue.evict_of_some (hx ▸ evictYoungest_append_cons_cons older hy hc)]
  simp

/-- Settles O13: the evicted event is followed by nothing, or by CRITICAL events only; the admission after it reads L_q
and the sequence number as the eviction leaves them. -/
theorem eviction : Obligations.Eviction := by
  refine ⟨fun x older younger y hx hy hc => ?_, fun x hc => ?_, fun x e redirected => ?_⟩
  · cases younger with
    | nil => exact LaneQueue.evict_of_last hx hy
    | cons f rest => exact LaneQueue.evict_of_followed hx hy hc
  · exact LaneQueue.evict_of_none (evictYoungest_eq_none_of_critical x.events hc)
  · simp [LaneQueue.admitEvent]

end Sys2Proof.Machine

/-!
PROOF. READ_RULE and CLEAR_RULE (obligation O23). The tests of a request whose body begins with an index are said once
(R45, R47, R48); what the two requests do with a rule that exists follows.
-/

namespace Sys2Proof.Machine

/-! ## Requests whose body begins with an index -/

/-- The tests of a rule whose body begins with an index below m: the length, then the index. -/
def indexRule (n m : Nat) (f : Fin m → List Byte → State → State × Answer) (_tag : Byte) (b : List Byte) (s : State) :
    State × Answer :=
  if b.length ≠ n then refuse s .badArgument
  else
    match indexOf m (byteAt b 0) with
    | none => refuse s .badIndex
    | some i => f i b s

section
variable {n m : Nat} (f : Fin m → List Byte → State → State × Answer) (tag : Byte) (s : State)

theorem indexRule_length {b : List Byte} (h : b.length ≠ n) : indexRule n m f tag b s = refuse s .badArgument := by
  rw [indexRule, if_pos h]

theorem indexRule_badIndex {a : Byte} {b : List Byte} (h : (a :: b).length = n) (ha : m ≤ a.toNat) :
    indexRule n m f tag (a :: b) s = refuse s .badIndex := by
  rw [indexRule, if_neg (not_not.2 h), byteAt_zero, indexOf_eq_none ha]

/-- A body of the right length with an index in range reaches the part of the rule that is about that index. -/
theorem indexRule_index {a : Byte} {b : List Byte} {i : Fin m} (h : (a :: b).length = n) (ha : indexOf m a = some i) :
    indexRule n m f tag (a :: b) s = f i (a :: b) s := by
  rw [indexRule, if_neg (not_not.2 h), byteAt_zero, ha]

end

section
variable {c : Byte → List Byte → Instr} {kind : Byte} {n m : Nat} {f : Fin m → List Byte → State → State × Answer}
  (hc : ∀ tag b s, exec (c tag b) s = .next (s.takeWith kind tag b (indexRule n m f)))
include hc

theorem wrongLengthRefused_of_indexRule : WrongLengthRefused c kind n := by
  intro tag b s ht hb
  rw [hc, State.takeWith_of_ne _ _ ht, indexRule_length _ _ _ hb, State.answer_refuse]

theorem exec_badIndex_of_indexRule {tag a : Byte} {b : List Byte} (s : State) (ht : tag ≠ 0)
    (h : (a :: b).length = n) (ha : m ≤ a.toNat) :
    exec (c tag (a :: b)) s = .next (s.replied tag kind .badIndex []) := by
  rw [hc, State.takeWith_of_ne _ _ ht, indexRule_badIndex _ _ _ h ha, State.answer_refuse]

theorem exec_index_of_indexRule {tag a : Byte} {b : List Byte} {i : Fin m} (s : State) (ht : tag ≠ 0)
    (h : (a :: b).length = n) (ha : indexOf m a = some i) :
    exec (c tag (a :: b)) s = .next (State.answer tag kind (f i (a :: b) s)) := by
  rw [hc, State.takeWith_of_ne _ _ ht, indexRule_index _ _ _ h ha]

end

/-! ## The rules of the table -/

@[simp] theorem ruleState_some (r : RuleRecord) : ruleState (some r) = 1 := rfl

@[simp] theorem ruleState_none : ruleState none = 0 := rfl

@[simp] theorem ruleBytes_some (r : RuleRecord) : ruleBytes (some r) = r.bytes := rfl

@[simp] theorem ruleBytes_none : ruleBytes none = List.replicate 46 0 := rfl

/-- A rule written with what it holds leaves the table as it is. -/
@[simp] theorem ClassTable.withRule_rule (t : ClassTable) (n : Fin 64) : t.withRule n (t.rule n) = t := by
  have same : t.rules.set n.val (t.rule n) n.isLt = t.rules := Vector.set_getElem_self n.isLt
  rw [ClassTable.withRule, same]

/-! ## READ_RULE and CLEAR_RULE -/

/-- READ_RULE of a rule that exists (R47). -/
def readRuleAt (n : Fin 64) (b : List Byte) (s : State) : State × Answer :=
  (s, .reply .ok ([byteAt b 0, ruleState (s.table.rule n)] ++ ruleBytes (s.table.rule n)))

/-- CLEAR_RULE of a rule that exists (R48). -/
def clearRuleAt (n : Fin 64) (b : List Byte) (s : State) : State × Answer :=
  ({ s with table := s.table.withRule n none }, .reply .ok [byteAt b 0, ruleState (s.table.rule n)])

theorem readRuleRule_eq : readRuleRule = indexRule 1 64 readRuleAt := by
  funext tag b s
  unfold readRuleRule indexRule
  cases indexOf 64 (byteAt b 0) <;> rfl

theorem exec_readRule (tag : Byte) (b : List Byte) (s : State) :
    exec (.readRule tag b) s = .next (s.takeWith 0x10 tag b (indexRule 1 64 readRuleAt)) :=
  readRuleRule_eq ▸ rfl

theorem clearRuleRule_eq : clearRuleRule = indexRule 1 64 clearRuleAt := by
  funext tag b s
  unfold clearRuleRule indexRule
  cases indexOf 64 (byteAt b 0) <;> rfl

theorem exec_clearRule (tag : Byte) (b : List Byte) (s : State) :
    exec (.clearRule tag b) s = .next (s.takeWith 0x11 tag b (indexRule 1 64 clearRuleAt)) :=
  clearRuleRule_eq ▸ rfl

/-- R47: the reply carries the index, the state of the rule and its record, and nothing changes. -/
theorem exec_readRule_index {tag : Byte} (ht : tag ≠ 0) (n : Fin 64) (s : State) :
    exec (.readRule tag [BitVec.ofNat 8 n.val]) s =
      .next (s.replied tag 0x10 .ok
        ([BitVec.ofNat 8 n.val, ruleState (s.table.rule n)] ++ ruleBytes (s.table.rule n))) :=
  exec_index_of_indexRule exec_readRule s ht rfl (indexOf_sixtyFour n)

/-- R48: the rule becomes UNUSED, and the reply carries the state it had. -/
theorem exec_clearRule_index {tag : Byte} (ht : tag ≠ 0) (n : Fin 64) (s : State) :
    exec (.clearRule tag [BitVec.ofNat 8 n.val]) s =
      .next ({ s with table := s.table.withRule n none }.replied tag 0x11 .ok
        [BitVec.ofNat 8 n.val, ruleState (s.table.rule n)]) :=
  exec_index_of_indexRule exec_clearRule s ht rfl (indexOf_sixtyFour n)

/-- Settles O23: the two refusals are those of indexRule; a VALID rule shows its record and an UNUSED one zeros, and
clearing an UNUSED rule leaves the table as it is. -/
theorem readAndClearRule : Obligations.ReadAndClearRule := by
  refine ⟨wrongLengthRefused_of_indexRule exec_readRule, wrongLengthRefused_of_indexRule exec_clearRule,
    fun tag i s ht hi => ⟨exec_badIndex_of_indexRule exec_readRule s ht rfl hi,
      exec_badIndex_of_indexRule exec_clearRule s ht rfl hi⟩,
    fun tag n r s ht valid => ?_, fun tag n s ht unused => ?_⟩
  · have valid : s.table.rule n = some r := valid
    simp only [exec_readRule_index ht, exec_clearRule_index ht, valid, ruleState_some, ruleBytes_some,
      ClassTable.withRule, and_self]
  · have unused : s.table.rule n = none := unused
    have unchanged : s.table.withRule n none = s.table := unused ▸ s.table.withRule_rule n
    simp only [exec_readRule_index ht, exec_clearRule_index ht, unused, unchanged, ruleState_none, ruleBytes_none,
      and_self]

end Sys2Proof.Machine

/-!
PROOF. SET_SCANNER_CHECKS and SET_REPEAT (obligation O37). The tests of a request whose body begins with a lane, or with
a lane and a port, are said once for every command of that form; what the two requests do with a body that passes them
follows (R122, R123).
-/

namespace Sys2Proof.Machine

/-! ## Requests whose body begins with a lane -/

section
variable {c : Byte → List Byte → Instr} {kind : Byte} {n : Nat} {f : LaneId → List Byte → State → State × Answer}
  (hc : ∀ tag b s, exec (c tag b) s = .next (s.takeWith kind tag b (laneRule n f)))
include hc

theorem wrongLengthRefused_of_laneRule : WrongLengthRefused c kind n := by
  intro tag b s ht hb
  rw [hc, State.takeWith_of_ne _ _ ht, laneRule_length _ _ _ _ hb, State.answer_refuse]

theorem badLaneRefused_of_laneRule : BadLaneRefused c kind n := by
  intro tag l b s ht h hl
  rw [hc, State.takeWith_of_ne _ _ ht, laneRule_badLane _ _ _ _ _ h hl, State.answer_refuse]

theorem exec_lane_of_laneRule {tag : Byte} {q : LaneId} {b : List Byte} (s : State) (ht : tag ≠ 0)
    (h : (laneByte q :: b).length = n) :
    exec (c tag (laneByte q :: b)) s = .next (State.answer tag kind (f q (laneByte q :: b) s)) := by
  rw [hc, State.takeWith_of_ne _ _ ht, laneRule_lane _ _ _ _ _ h]

end

/-! ## Requests whose body begins with a lane and a port -/

section
variable {c : Byte → List Byte → Instr} {kind : Byte} {n : Nat}
  {f : LaneId → PortId → List Byte → State → State × Answer}
  (hc : ∀ tag b s, exec (c tag b) s = .next (s.takeWith kind tag b (portRule n f)))
include hc

theorem wrongLengthRefused_of_portRule : WrongLengthRefused c kind n :=
  wrongLengthRefused_of_laneRule hc

theorem badLaneRefused_of_portRule : BadLaneRefused c kind n :=
  badLaneRefused_of_laneRule hc

theorem badPortRefused_of_portRule : BadPortRefused c kind n := by
  intro tag q p b s ht h hp
  rw [hc, State.takeWith_of_ne _ _ ht, portRule_badPort _ _ _ _ _ _ h hp, State.answer_refuse]

theorem exec_port_of_portRule {tag : Byte} {q : LaneId} {p : PortId} {b : List Byte} (s : State) (ht : tag ≠ 0)
    (h : (laneByte q :: portByte p :: b).length = n) :
    exec (c tag (laneByte q :: portByte p :: b)) s =
      .next (State.answer tag kind (f q p (laneByte q :: portByte p :: b) s)) := by
  rw [hc, State.takeWith_of_ne _ _ ht, portRule_port _ _ _ _ _ _ h]

end

/-! ## Two-byte fields -/

@[simp] theorem halfAt_succ (a : Byte) (l : List Byte) (n : Nat) : halfAt (a :: l) (n + 1) = halfAt l n := rfl

@[simp] theorem halfAt_halfBytes (h : Half) : halfAt (halfBytes h) 0 = h := halfBytes_append h

/-! ## Clamping from above (R192) -/

@[simp] theorem clamp_zero_left (hi v : Nat) : clamp 0 hi v = min hi v := Nat.zero_max _

theorem carriedOut_min (hi v : Nat) : carriedOut (min hi v == v) = if v ≤ hi then .ok else .adjusted := by
  simp [carriedOut]

/-! ## Check sets (R122) -/

/-- A mask has no bit outside another exactly when each of its bits is a bit of the other. -/
theorem and_not_eq_zero_iff {w : Nat} (m k : BitVec w) :
    m &&& ~~~k = 0 ↔ ∀ n, m.getLsbD n = true → k.getLsbD n = true := by
  constructor
  · intro h n hm
    have bit : (m &&& ~~~k).getLsbD n = false := by simp [h]
    have hn : n < w := BitVec.lt_of_getLsbD hm
    simpa [hm, hn] using bit
  · intro h
    apply BitVec.eq_of_getLsbD_eq
    intro n hn
    cases hm : m.getLsbD n with
    | false => simp [hm]
    | true => simp [h n hm]

/-- R122: the full check set names EAN13, EAN8 and UPCA, and nothing else. -/
theorem getLsbD_fullCheckSet (n : Nat) : fullCheckSet.getLsbD n = true ↔ n = 1 ∨ n = 2 ∨ n = 3 := by
  by_cases hn : n < 16
  · interval_cases n <;> decide
  · rw [BitVec.getLsbD_of_ge _ _ (by omega)]
    exact iff_of_false Bool.false_ne_true (by omega)

/-- The test of a check set (R122): no member outside EAN13, EAN8 and UPCA. -/
theorem and_not_fullCheckSet_eq_zero_iff (m : Half) :
    m &&& ~~~fullCheckSet = 0 ↔ ∀ n, m.getLsbD n = true → n = 1 ∨ n = 2 ∨ n = 3 := by
  simp only [and_not_eq_zero_iff, getLsbD_fullCheckSet]

/-! ## SET_SCANNER_CHECKS and SET_REPEAT -/

theorem exec_setScannerChecks (tag : Byte) (b : List Byte) (s : State) :
    exec (.setScannerChecks tag b) s = .next (s.takeWith 0x0B tag b setScannerChecksRule) := rfl

theorem exec_setRepeat (tag : Byte) (b : List Byte) (s : State) :
    exec (.setRepeat tag b) s = .next (s.takeWith 0x0C tag b setRepeatRule) := rfl

/-- R122, test 4: a set with a member that is not checked is refused. -/
theorem exec_setScannerChecks_refused {tag : Byte} (ht : tag ≠ 0) {m : Half} (hm : m &&& ~~~fullCheckSet ≠ 0)
    (q : LaneId) (p : PortId) (s : State) :
    exec (.setScannerChecks tag ([laneByte q, portByte p] ++ halfBytes m)) s =
      .next (s.replied tag 0x0B .badArgument []) := by
  refine (exec_port_of_portRule exec_setScannerChecks (b := halfBytes m) s ht rfl).trans ?_
  simp only [halfAt_succ, halfAt_halfBytes, if_pos hm, State.answer_refuse]

/-- R122: a set of codes that are checked replaces the port's set, and the reply carries it. -/
theorem exec_setScannerChecks_taken {tag : Byte} (ht : tag ≠ 0) {m : Half} (hm : m &&& ~~~fullCheckSet = 0)
    (q : LaneId) (p : PortId) (s : State) :
    exec (.setScannerChecks tag ([laneByte q, portByte p] ++ halfBytes m)) s =
      .next ((s.withChecker q { s.checkers.get q with checks := (s.checkers.get q).checks.set p m }).replied tag 0x0B
        .ok ([laneByte q, portByte p] ++ halfBytes m)) := by
  refine (exec_port_of_portRule exec_setScannerChecks (b := halfBytes m) s ht rfl).trans ?_
  simp [hm]

/-- R123: the hold time is replaced by the given one, at most 5000, and the recent-symbol list is emptied. -/
theorem exec_setRepeat_taken {tag : Byte} (ht : tag ≠ 0) (t : Half) (q : LaneId) (s : State) :
    exec (.setRepeat tag (laneByte q :: halfBytes t)) s =
      .next ((s.withChecker q { s.checkers.get q with holdTime := min 5000 t.toNat, recent := [] }).replied tag 0x0C
        (if t.toNat ≤ 5000 then .ok else .adjusted)
        ([laneByte q] ++ num2 (min 5000 t.toNat) ++ num1 (s.checkers.get q).recent.length)) := by
  refine (exec_lane_of_laneRule exec_setRepeat (b := halfBytes t) s ht rfl).trans ?_
  simp [nat2At, carriedOut_min]

/-- Settles O37: the tests of length, lane and port are those of portRule and laneRule; a check set passes the test of
R122 exactly when each of its bits is one of 1 to 3, and a hold time is clamped from above only. -/
theorem checkerSettings : Obligations.CheckerSettings := by
  refine ⟨wrongLengthRefused_of_portRule exec_setScannerChecks, badLaneRefused_of_portRule exec_setScannerChecks,
    badPortRefused_of_portRule exec_setScannerChecks, fun tag m q p s ht => ⟨?_, fun drawn => ?_⟩,
    wrongLengthRefused_of_laneRule exec_setRepeat, badLaneRefused_of_laneRule exec_setRepeat,
    fun tag t q s ht => exec_setRepeat_taken ht t q s⟩
  · rintro ⟨n, not1, not2, not3, hn⟩
    have outside : m &&& ~~~fullCheckSet ≠ 0 := fun h => by
      have := (and_not_fullCheckSet_eq_zero_iff m).1 h n hn
      omega
    exact exec_setScannerChecks_refused ht outside q p s
  · exact exec_setScannerChecks_taken ht ((and_not_fullCheckSet_eq_zero_iff m).2 drawn) q p s

end Sys2Proof.Machine

/-!
PROOF. READ_LANE_STATUS (obligation O52). The request passes the tests of laneRule, and its record reads each item from
the block that owns it. The byte of a pacing state is the one item that is tied to the flag of R206 by a case split.
-/

namespace Sys2Proof.Machine

/-- R206: the byte of a pacing state is 1 for HOLDING and 0 for IDLE. -/
@[simp] theorem Meter.code_pacing (m : Meter) : m.pacing.code = flagByte m.holds := by
  unfold Meter.holds
  cases m.pacing <;> rfl

theorem exec_readLaneStatus (tag : Byte) (b : List Byte) (s : State) :
    exec (.readLaneStatus tag b) s = .next (s.takeWith 0x06 tag b readLaneStatusRule) := rfl

/-- R180: the reply carries the lane status record, and joins the transmit path of a state otherwise as it was. -/
theorem exec_readLaneStatus_lane {tag : Byte} (ht : tag ≠ 0) (q : LaneId) (s : State) :
    exec (.readLaneStatus tag [laneByte q]) s = .next (s.replied tag 0x06 .ok (s.laneStatus q)) :=
  exec_lane_of_laneRule exec_readLaneStatus s ht rfl

/-- Settles O52: the two refusals are those of laneRule, and a lane is answered with its record. Once the pacing states
are flags, the record is the one of R206 by definition: privilege (R179), cooling (R140) and occupancy stand for what
the statement writes out. -/
theorem readLaneStatus : Obligations.ReadLaneStatus := by
  refine ⟨wrongLengthRefused_of_laneRule exec_readLaneStatus, badLaneRefused_of_laneRule exec_readLaneStatus, ?_⟩
  rintro tag q _ _ _ _ _ _ s ht rfl rfl rfl rfl rfl rfl
  rw [exec_readLaneStatus_lane ht]
  simp only [State.laneStatus, Meter.code_pacing]
  rfl

end Sys2Proof.Machine

/-!
PROOF. IDENTIFY and READ_TIME (obligation O10), READ_COUNTERS and CLEAR_COUNTERS (obligation O11). What a request does
by its rule is said once for every rule; then which scope a body names and which refusals it meets (R195), what the two
counter requests do with the scope, and what CLEAR_COUNTERS of ALL comes to lane by lane (R196).
-/

namespace Sys2Proof.Machine

/-! ## Requests by their rule -/

section
variable {c : Byte → List Byte → Instr} {kind : Byte} {n : Nat} {rule : Byte → List Byte → State → State × Answer}
  (hc : ∀ tag b s, exec (c tag b) s = .next (s.takeWith kind tag b rule))
include hc

/-- A request of a tag that is not 0 answers what its rule does. -/
theorem exec_of_rule {tag : Byte} {b : List Byte} {s : State} {r : State × Answer} (ht : tag ≠ 0)
    (hr : rule tag b s = r) : exec (c tag b) s = .next (State.answer tag kind r) := by
  rw [hc, State.takeWith_of_ne _ _ ht, hr]

/-- A rule that refuses every body of another length makes its request one of that body length. -/
theorem wrongLengthRefused_of_rule (hr : ∀ tag b s, b.length ≠ n → rule tag b s = refuse s .badArgument) :
    WrongLengthRefused c kind n :=
  fun tag b s ht hb => exec_of_rule hc ht (hr tag b s hb)

end

/-! ## IDENTIFY and READ_TIME -/

theorem exec_identify (tag : Byte) (b : List Byte) (s : State) :
    exec (.identify tag b) s = .next (s.takeWith 0x01 tag b identifyRule) := rfl

theorem exec_readTime (tag : Byte) (b : List Byte) (s : State) :
    exec (.readTime tag b) s = .next (s.takeWith 0x02 tag b readTimeRule) := rfl

/-- Settles O10: both rules test the length first. The identity and the capacities are constants of the part, and the
rest of the reply is read from the link and the time. -/
theorem identityAndTime : Obligations.IdentityAndTime :=
  ⟨wrongLengthRefused_of_rule exec_identify fun _ _ _ h => if_pos h,
    wrongLengthRefused_of_rule exec_readTime fun _ _ _ h => if_pos h,
    fun _ _ ht => exec_of_rule exec_identify ht rfl, fun _ _ ht => exec_of_rule exec_readTime ht rfl⟩

/-! ## The scope a body names (R195) -/

/-- R195: the number of counters of a scope. -/
def CounterScope.size : CounterScope → Nat
  | .link => 5
  | .queue _ => 10
  | .keyboard _ => 4
  | .port _ _ => 17
  | .drawer _ => 5
  | .flow => 32

theorem State.length_counters (s : State) (x : CounterScope) : (s.counters x).length = x.size := by
  cases x with
  | flow => exact s.table.flow.length_toList
  | _ => rfl

theorem laneScope_laneByte (q : LaneId) (f : LaneId → CounterScope) : laneScope (laneByte q) f = .inr (f q) := by
  rw [laneScope, laneOf_laneByte]

theorem laneScope_badLane {l : Byte} (h : 3 < l.toNat) (f : LaneId → CounterScope) :
    laneScope l f = .inl .badLane := by
  rw [laneScope, laneOf_eq_none h]

theorem counterScopeAt_link (l p : Byte) : counterScopeAt [0, l, p] = .inr .link := rfl

theorem counterScopeAt_queue (q : LaneId) (p : Byte) : counterScopeAt [1, laneByte q, p] = .inr (.queue q) :=
  laneScope_laneByte q _

theorem counterScopeAt_keyboard (q : LaneId) (p : Byte) : counterScopeAt [2, laneByte q, p] = .inr (.keyboard q) :=
  laneScope_laneByte q _

theorem counterScopeAt_port (q : LaneId) (p : PortId) :
    counterScopeAt [3, laneByte q, portByte p] = .inr (.port q p) := by
  simp [counterScopeAt]

theorem counterScopeAt_drawer (q : LaneId) (p : Byte) : counterScopeAt [4, laneByte q, p] = .inr (.drawer q) :=
  laneScope_laneByte q _

theorem counterScopeAt_flow (l p : Byte) : counterScopeAt [5, l, p] = .inr .flow := rfl

/-- R195, test 2: a group above 5 does not exist. -/
theorem counterScopeAt_badIndex {g : Byte} (h : 5 < g.toNat) (l p : Byte) :
    counterScopeAt [g, l, p] = .inl .badIndex := by
  have ne : ∀ k : Byte, k.toNat ≤ 5 → g ≠ k := by
    rintro k hk rfl
    omega
  simp [counterScopeAt, ne]

/-- R195, test 3: each of the groups 1 to 4 is of one lane. -/
theorem counterScopeAt_badLane {g l : Byte} (h1 : 1 ≤ g.toNat) (h4 : g.toNat ≤ 4) (hl : 3 < l.toNat) (p : Byte) :
    counterScopeAt [g, l, p] = .inl .badLane := by
  have group : g = 1 ∨ g = 2 ∨ g = 3 ∨ g = 4 := by bv_omega
  obtain rfl | rfl | rfl | rfl := group
  · exact laneScope_badLane hl _
  · exact laneScope_badLane hl _
  · simp [counterScopeAt, laneOf_eq_none hl]
  · exact laneScope_badLane hl _

/-- R195, test 4: group 3 is of one port as well. -/
theorem counterScopeAt_badPort {p : Byte} (h : 1 < p.toNat) (q : LaneId) :
    counterScopeAt [3, laneByte q, p] = .inl .badArgument := by
  simp [counterScopeAt, portOf_eq_none h]

/-! ## READ_COUNTERS and CLEAR_COUNTERS of one scope -/

theorem exec_readCounters (tag : Byte) (b : List Byte) (s : State) :
    exec (.readCounters tag b) s = .next (s.takeWith 0x21 tag b readCountersRule) := rfl

theorem exec_clearCounters (tag : Byte) (b : List Byte) (s : State) :
    exec (.clearCounters tag b) s = .next (s.takeWith 0x22 tag b clearCountersRule) := rfl

theorem not_length_ne_three (g l p : Byte) : ¬ [g, l, p].length ≠ 3 := not_not.2 rfl

/-- The fields of the reply about a scope: the body as given, the number of its counters, and what they hold. -/
theorem counterFields_counters (g l p : Byte) (s : State) (x : CounterScope) :
    counterFields [g, l, p] (s.counters x) =
      [g, l, p, BitVec.ofNat 8 x.size] ++ (s.counters x).flatMap wordBytes := by
  rw [counterFields, s.length_counters]
  rfl

section
variable {tag g l p : Byte} (ht : tag ≠ 0)
include ht

/-- R195: the reply carries the counters of the scope, and nothing changes. -/
theorem exec_readCounters_scope {x : CounterScope} (hx : counterScopeAt [g, l, p] = .inr x) (s : State) :
    exec (.readCounters tag [g, l, p]) s =
      .next (s.replied tag 0x21 .ok ([g, l, p, BitVec.ofNat 8 x.size] ++ (s.counters x).flatMap wordBytes)) := by
  rw [← counterFields_counters]
  refine exec_of_rule exec_readCounters ht (r := (s, .reply .ok (counterFields [g, l, p] (s.counters x)))) ?_
  rw [readCountersRule, if_neg (not_length_ne_three g l p), hx]

theorem exec_readCounters_refused {st : Status} (hx : counterScopeAt [g, l, p] = .inl st) (s : State) :
    exec (.readCounters tag [g, l, p]) s = .next (s.replied tag 0x21 st []) := by
  refine exec_of_rule exec_readCounters ht (r := refuse s st) ?_
  rw [readCountersRule, if_neg (not_length_ne_three g l p), hx]

/-- R196: the counters of the scope are set to 0, and the reply carries what they held. Group 6, which is ALL, names no
scope. -/
theorem exec_clearCounters_scope {x : CounterScope} (hx : counterScopeAt [g, l, p] = .inr x) (s : State) :
    exec (.clearCounters tag [g, l, p]) s =
      .next ((s.clearCounters x).replied tag 0x22 .ok
        ([g, l, p, BitVec.ofNat 8 x.size] ++ (s.counters x).flatMap wordBytes)) := by
  have notAll : g ≠ 6 := by
    rintro rfl
    cases hx
  rw [← counterFields_counters]
  refine exec_of_rule exec_clearCounters ht
    (r := (s.clearCounters x, .reply .ok (counterFields [g, l, p] (s.counters x)))) ?_
  rw [clearCountersRule, if_neg (not_length_ne_three g l p), byteAt_zero, if_neg notAll, hx]

theorem exec_clearCounters_refused {st : Status} (notAll : g ≠ 6) (hx : counterScopeAt [g, l, p] = .inl st)
    (s : State) : exec (.clearCounters tag [g, l, p]) s = .next (s.replied tag 0x22 st []) := by
  refine exec_of_rule exec_clearCounters ht (r := refuse s st) ?_
  rw [clearCountersRule, if_neg (not_length_ne_three g l p), byteAt_zero, if_neg notAll, hx]

end

/-! ## CLEAR_COUNTERS of ALL (R196) -/

/-- A queue with its counters at 0. -/
def LaneQueue.cleared (x : LaneQueue) : LaneQueue := { x with counters := QueueCounters.zero }

/-- A keyboard with its counters at 0. -/
def Keyboard.cleared (x : Keyboard) : Keyboard := { x with counters := KeyboardCounters.zero }

/-- A scanner port with its counters at 0. -/
def ScannerPort.cleared (x : ScannerPort) : ScannerPort := { x with counters := PortCounters.zero }

/-- A drawer with its counters at 0. -/
def Drawer.cleared (x : Drawer) : Drawer := { x with counters := DrawerCounters.zero }

/-- The counters of every scope of lane q set to 0. -/
def State.clearLane (s : State) (q : LaneId) : State :=
  { s with
    store := { s.store with queues := s.store.queues.set q (s.store.queues.get q).cleared }
    keyboards := s.keyboards.set q (s.keyboards.get q).cleared
    scanners := s.scanners.set q ((s.scanners.get q).map ScannerPort.cleared)
    drawers := s.drawers.set q (s.drawers.get q).cleared }

/-- Clearing port A and then port B of a lane clears the lane's bank of ports. -/
theorem State.clearCounters_ports (s : State) (q : LaneId) :
    (s.clearCounters (.port q .a)).clearCounters (.port q .b) =
      { s with scanners := s.scanners.set q ((s.scanners.get q).map ScannerPort.cleared) } := by
  simp only [State.clearCounters, State.withPort, State.port, Lanes.get_set_self, Lanes.set_set]
  rfl

theorem State.foldl_clearCounters_lane (s : State) (q : LaneId) :
    [CounterScope.queue q, .keyboard q, .port q .a, .port q .b, .drawer q].foldl State.clearCounters s =
      s.clearLane q := by
  simp only [List.foldl_cons, List.foldl_nil, State.clearCounters_ports]
  rfl

/-- Clearing lanes one after another changes each bank of blocks on its own. -/
theorem State.foldl_clearLane (l : List LaneId) (s : State) :
    l.foldl State.clearLane s =
      { s with
        store := { s.store with queues := l.foldl (fun b q => b.set q (b.get q).cleared) s.store.queues }
        keyboards := l.foldl (fun b q => b.set q (b.get q).cleared) s.keyboards
        scanners := l.foldl (fun b q => b.set q ((b.get q).map ScannerPort.cleared)) s.scanners
        drawers := l.foldl (fun b q => b.set q (b.get q).cleared) s.drawers } := by
  induction l generalizing s with
  | nil => rfl
  | cons q l ih => exact ih (s.clearLane q)

/-- Replacing what each lane holds by its image, lane after lane, is the map. -/
theorem Lanes.foldl_set_get {α : Type} (f : α → α) (b : Lanes α) :
    allLanes.foldl (fun b q => b.set q (f (b.get q))) b = b.map f := rfl

/-- R196: all scopes one after another are the link's, the table's, and in every lane those of its blocks. -/
theorem State.foldl_clearCounters_allScopes (s : State) :
    allScopes.foldl State.clearCounters s =
      { s with
        link := { s.link with counters := LinkCounters.zero }
        table := { s.table with flow := Vector.replicate 32 0 }
        store := { s.store with queues := s.store.queues.map LaneQueue.cleared }
        keyboards := s.keyboards.map Keyboard.cleared
        scanners := s.scanners.map (Ports.map ScannerPort.cleared)
        drawers := s.drawers.map Drawer.cleared } := by
  rw [allScopes, List.foldl_cons, List.foldl_cons, List.foldl_flatMap]
  simp only [State.foldl_clearCounters_lane, State.foldl_clearLane, ← Lanes.foldl_set_get]
  rfl

/-- R196: ALL sets every counter of the part to 0 and reports none. -/
theorem exec_clearCounters_all {tag : Byte} (ht : tag ≠ 0) (l p : Byte) (s : State) :
    exec (.clearCounters tag [6, l, p]) s =
      .next ((allScopes.foldl State.clearCounters s).replied tag 0x22 .ok [6, l, p, 0]) :=
  exec_of_rule exec_clearCounters ht (r := (_, .reply .ok [6, l, p, 0])) rfl

/-! ## The statement -/

/-- Settles O11: a body that names a scope has its counters read or cleared; one that names none meets the refusal of
its first failing test; and ALL clears every scope. -/
theorem counters : Obligations.Counters := by
  refine ⟨⟨wrongLengthRefused_of_rule exec_readCounters fun _ _ _ h => if_pos h, ?_⟩,
    wrongLengthRefused_of_rule exec_clearCounters fun _ _ _ h => if_pos h, ?_⟩
  · refine ⟨fun tag g l p s ht hg => exec_readCounters_refused ht (counterScopeAt_badIndex hg l p) s,
      fun tag g l p s ht h1 h4 hl => exec_readCounters_refused ht (counterScopeAt_badLane h1 h4 hl p) s,
      fun tag p q s ht hp => exec_readCounters_refused ht (counterScopeAt_badPort hp q) s,
      fun tag l p s ht => exec_readCounters_scope ht (counterScopeAt_link l p) s, ?_, ?_, ?_, ?_,
      fun tag l p s ht => exec_readCounters_scope ht (counterScopeAt_flow l p) s⟩
    · rintro tag p q _ s ht rfl
      exact exec_readCounters_scope ht (counterScopeAt_queue q p) s
    · rintro tag p q _ s ht rfl
      exact exec_readCounters_scope ht (counterScopeAt_keyboard q p) s
    · rintro tag q p _ s ht rfl
      exact exec_readCounters_scope ht (counterScopeAt_port q p) s
    · rintro tag p q _ s ht rfl
      exact exec_readCounters_scope ht (counterScopeAt_drawer q p) s
  · refine ⟨fun tag g l p s ht hg => ?_, fun tag g l p s ht h1 h4 hl => ?_,
      fun tag p q s ht hp => exec_clearCounters_refused ht (by decide) (counterScopeAt_badPort hp q) s,
      fun tag l p s ht => exec_clearCounters_scope ht (counterScopeAt_link l p) s,
      fun tag p q s ht => exec_clearCounters_scope ht (counterScopeAt_queue q p) s,
      fun tag p q s ht => exec_clearCounters_scope ht (counterScopeAt_keyboard q p) s,
      fun tag q p s ht => exec_clearCounters_scope ht (counterScopeAt_port q p) s,
      fun tag p q s ht => exec_clearCounters_scope ht (counterScopeAt_drawer q p) s,
      fun tag l p s ht => exec_clearCounters_scope ht (counterScopeAt_flow l p) s, fun tag l p s ht => ?_⟩
    · exact exec_clearCounters_refused ht (by bv_omega) (counterScopeAt_badIndex (by omega) l p) s
    · exact exec_clearCounters_refused ht (by bv_omega) (counterScopeAt_badLane h1 h4 hl p) s
    · rw [exec_clearCounters_all ht, State.foldl_clearCounters_allScopes]
      rfl

end Sys2Proof.Machine

/-!
PROOF. The state after a part reset: the command that makes it (obligations O1, O3), what its blocks hold (O4), and the
invariants that hold in it (O60).
-/

namespace Sys2Proof.Machine

/-! ## What a part reset leaves -/

theorem step_of_pending (s : State) (c : Instr) (rest : List Instr) :
    step { s with pending := c :: rest } = exec c { s with pending := rest } := rfl

theorem exec_partReset (cause : ResetPin) (straps : BitVec 2) (s : State) :
    exec (.partReset cause straps) s = .next (s.partReset (resetCauseOf cause) straps) := rfl

@[simp] theorem State.reset_queue (q : LaneId) : State.reset.store.queues.get q = LaneQueue.reset := Lanes.get_all _ q

@[simp] theorem State.reset_keyboard (q : LaneId) : State.reset.keyboards.get q = Keyboard.reset := Lanes.get_all _ q

@[simp] theorem State.reset_port (q : LaneId) (p : PortId) : State.reset.port q p = ScannerPort.reset := by
  simp [State.port, State.reset, State.afterReset]

@[simp] theorem State.reset_checker (q : LaneId) : State.reset.checkers.get q = Checker.reset := Lanes.get_all _ q

@[simp] theorem State.reset_meter (q : LaneId) (p : PortId) : State.reset.meter q p = Meter.reset := by
  simp [State.meter, State.reset, State.afterReset]

@[simp] theorem State.reset_drawer (q : LaneId) : State.reset.drawers.get q = Drawer.reset := Lanes.get_all _ q

@[simp] theorem State.reset_arbiter : State.reset.arbiter = ⟨none, none, []⟩ := rfl

@[simp] theorem State.reset_monitor (i : MonitorId) : State.reset.monitor i = Monitor.reset :=
  Vector.getElem_replicate i.isLt

@[simp] theorem State.reset_conditions (q : LaneId) :
    State.reset.interlocks.conditions.get q = EffectConditions.none := Lanes.get_all _ q

@[simp] theorem State.reset_outputs (q : LaneId) : State.reset.outputs.get q = LaneOutputs.reset := Lanes.get_all _ q

@[simp] theorem State.reset_mode (q : LaneId) : State.reset.modes.get q = LaneMode.reset := Lanes.get_all _ q

/-- Settles O1: the command at the front of the queue is the one a step matches on. -/
theorem stepTakesFrontCommand : Obligations.StepTakesFrontCommand :=
  fun c rest s => step_of_pending s c rest

/-- Settles O3: the link of a part reset is the one of R197, and the model's own queue and count of orders are kept. -/
theorem partReset : Obligations.PartReset := by
  intro x straps s
  refine ⟨_, exec_partReset x straps s, rfl, rfl, rfl, rfl, ?_, ?_, rfl, rfl, rfl, rfl, rfl⟩
  · cases x <;> rfl
  · cases x <;> rfl

/-- Settles O4: a part reset takes every block from the state after reset, whose blocks hold their reset values. -/
theorem resetValues : Obligations.ResetValues := by
  refine ⟨⟨fun x y s => ⟨_, exec_partReset x y s, rfl⟩, fun q => ?_, by decide, rfl, rfl, rfl⟩,
    ⟨fun x y s => ⟨_, exec_partReset x y s, rfl, rfl, rfl, rfl, rfl, rfl⟩, fun q => ?_, fun q p => ?_, fun q => ?_,
      State.reset_meter, State.reset_drawer, State.reset_arbiter⟩,
    ⟨fun x y s => ⟨_, exec_partReset x y s, rfl, rfl, rfl, rfl, rfl⟩, fun n => ?_, fun n => ?_, fun n => ?_,
      fun i => ?_, State.reset_conditions, fun n => ⟨?_, fun i => ?_⟩, fun q => ?_, fun q => ?_⟩⟩
  · rw [State.reset_queue]
    exact ⟨rfl, rfl, rfl, rfl, rfl, rfl, rfl⟩
  · rw [State.reset_keyboard]
    exact ⟨rfl, rfl, rfl, rfl, rfl, rfl, rfl, fun p => Vector.getElem_replicate p.isLt, rfl, rfl⟩
  · rw [State.reset_port]
    exact ⟨rfl, rfl, rfl, rfl, rfl, rfl, rfl, rfl, rfl, rfl, rfl,
      fun n => congrArg IdEntry.used (Vector.getElem_replicate n.isLt), rfl⟩
  · rw [State.reset_checker]
    refine ⟨rfl, rfl, fun p n => ?_⟩
    rw [show Checker.reset.checks.get p = fullCheckSet from Ports.get_both _ p]
    exact getLsbD_fullCheckSet n
  · exact Vector.getElem_replicate n.isLt
  · exact Vector.getElem_replicate n.isLt
  · exact Vector.getElem_replicate n.isLt
  · rw [State.reset_monitor]
    exact ⟨rfl, rfl, rfl, rfl, rfl, rfl, rfl, rfl, rfl, rfl⟩
  · exact congrArg Pattern.count (Vector.getElem_replicate n.isLt)
  · rw [show State.reset.patterns.get n = Pattern.reset from Vector.getElem_replicate n.isLt]
    exact Vector.getElem_replicate i.isLt
  · rw [State.reset_outputs]
    exact ⟨rfl, rfl, fun p => Ports.get_both _ p⟩
  · rw [State.reset_mode]
    exact ⟨rfl, rfl, rfl, rfl⟩

/-! ## The invariants after reset -/

theorem State.reset_storeFits : State.reset.StoreFits :=
  ⟨fun q => by rw [State.reset_queue]; decide, by decide⟩

theorem State.reset_keysFit : State.reset.KeysFit := fun q => by
  rw [State.reset_keyboard]
  exact ⟨by decide, fun _ => rfl, List.Pairwise.nil⟩

theorem State.reset_metersFit : State.reset.MetersFit := fun q p => by
  rw [State.reset_meter]
  decide

theorem State.reset_recentFits : State.reset.RecentFits := fun q => by
  rw [State.reset_checker]
  exact ⟨by decide, List.nodup_nil⟩

theorem Link.afterReset_fits (cause : ResetCause) (straps : BitVec 2) :
    (Link.afterReset cause straps).buffer.length ≤ 4 ∧ (Link.afterReset cause straps).overruns ≤ 8 :=
  ⟨Nat.zero_le 4, Nat.zero_le 8⟩

theorem ScannerPort.reset_consistent : ScannerPort.reset.Consistent := by
  refine ⟨by decide, rfl, by decide, fun _ => rfl, by decide⟩

theorem State.reset_portsConsistent : State.reset.PortsConsistent := fun q p => by
  rw [State.reset_port]
  exact ScannerPort.reset_consistent

theorem State.reset_portsFollowEnables : State.reset.PortsFollowEnables := fun q p => by
  rw [State.reset_port, State.reset_mode]
  exact ⟨by cases p <;> rfl, fun _ => rfl⟩

theorem State.reset_driveAgrees : State.reset.DriveAgrees := by
  refine ⟨fun q => ?_, fun q => ?_, fun q h => ?_, List.nodup_nil⟩
  · simp [Arbiter.holds, Drawer.reset, Drawer.isDriving]
  · simp [Drawer.reset, Drawer.isQueued]
  · simp at h

theorem State.reset_drawersFollowSense : State.reset.DrawersFollowSense := fun q => by
  rw [State.reset_drawer]
  rfl

theorem State.reset_lockoutHolds : State.reset.LockoutHolds := fun q _ => by
  rw [State.reset_drawer]
  rfl

theorem State.reset_monitorsTrack : State.reset.MonitorsTrack := fun i => by
  rw [State.reset_monitor]
  rfl

theorem State.reset_effectsTrack : State.reset.EffectsTrack := by
  unfold State.EffectsTrack
  decide

theorem State.reset_monitor_legal (i : MonitorId) : (State.reset.monitor i).Legal := by
  rw [State.reset_monitor]
  exact rfl

theorem State.reset_inhibitsTrack : State.reset.InhibitsTrack := fun q p => by
  rw [State.reset_outputs, State.reset_mode, show LaneOutputs.reset.inhibits.get p = ⟨.off, .on⟩ from
    Ports.get_both _ p]
  exact iff_of_true rfl (Or.inr (Or.inl (by cases p <;> rfl)))

theorem State.reset_accounted : State.reset.Accounted := fun q => by
  unfold EventStore.occ
  rw [State.reset_queue]
  rfl

/-- Settles O60: each invariant is read off the reset values of the blocks it speaks of. -/
theorem invariantsAtReset : Obligations.InvariantsAtReset :=
  ⟨State.reset_storeFits, State.reset_keysFit, State.reset_metersFit, State.reset_recentFits,
    Link.afterReset_fits _ _, State.reset_portsConsistent, State.reset_portsFollowEnables, State.reset_driveAgrees,
    State.reset_drawersFollowSense, State.reset_lockoutHolds, State.reset_monitorsTrack, State.reset_effectsTrack,
    State.reset_inhibitsTrack, State.reset_accounted, State.reset_monitor_legal⟩

end Sys2Proof.Machine

/-!
PROOF. The invariants of the Event Store: its accounting (O15) and its shares (O54). A property of the store alone is
kept by every command once the seven updates of the store keep it; both invariants are proved by these updates.
-/

namespace Sys2Proof.Machine

/-! ## Properties of the store alone -/

/-- The updates the commands make in the Event Store, each of which keeps Q. -/
structure KeptByStore (Q : EventStore → Prop) : Prop where
  reset : Q EventStore.reset
  filtered : ∀ st q, Q st → Q (st.countFiltered q)
  offered : ∀ st q e r, Q st → Q (st.offer q e r).1
  waited : ∀ st q w, Q st → Q (st.setWait q w)
  fetched : ∀ st q n, Q st → Q (st.withQueue q ((st.queues.get q).fetched n))
  flushed : ∀ st q, Q st → Q (st.withQueue q (st.queues.get q).flush)
  resettled : ∀ (st : EventStore) (a : AdmissionSettings), st.fits a.clamped.reserves = true → Q st →
    Q (st.withSettings a.clamped)

theorem KeptByStore.commands {Q : EventStore → Prop} (k : KeptByStore Q) : KeptByCommands fun s => Q s.store := by
  constructor
  case toKeptByBlocks =>
    constructor
    case toKeptByEvents =>
      constructor
      case filtered => exact fun s q h => k.filtered s.store q h
      case offered => exact fun s q e r h => k.offered s.store q e r h
      case waited => exact fun s q w h => k.waited s.store q w h
      all_goals intros; assumption
    all_goals intros; assumption
  case reset => exact fun _ _ _ _ _ => k.reset
  case fetched => exact fun s q n h => k.fetched s.store q n h
  case flushed => exact fun s q h => k.flushed s.store q h
  case resettled => exact fun s a hf h => k.resettled s.store a hf h
  case granted =>
    intro s h
    show Q s.grantOne.store
    unfold State.grantOne
    split <;> exact h
  case offeredFrame =>
    intro s f h
    show Q (s.offerFrame f).store
    unfold State.offerFrame
    simp only
    repeat' split
    all_goals exact h
  all_goals intros; assumption

/-! ## The accounting of section 1.3.1 -/

/-- What was admitted to the queue was fetched, flushed or evicted, or is still held, modulo 2^32. -/
def LaneQueue.Accounted (x : LaneQueue) : Prop :=
  x.counters.admitted =
    x.counters.fetched + x.counters.flushed + x.counters.evicted + BitVec.ofNat 32 x.events.length

/-- Every queue of the store is accounted for. -/
def EventStore.Accounted (st : EventStore) : Prop := ∀ q, (st.queues.get q).Accounted

theorem EventStore.Accounted.withQueue {st : EventStore} (h : st.Accounted) (q : LaneId) {x : LaneQueue}
    (hx : x.Accounted) : (st.withQueue q x).Accounted := by
  intro r
  rw [EventStore.withQueue, Lanes.get_set]
  split
  · exact hx
  · exact h r

theorem LaneQueue.Accounted.admitEvent {x : LaneQueue} (h : x.Accounted) (e : Event) (redirected : Bool) :
    (x.admitEvent e redirected).Accounted := by
  simp only [LaneQueue.Accounted, LaneQueue.admitEvent, List.length_append, List.length_singleton,
    BitVec.ofNat_add] at h ⊢
  rw [h]
  ac_rfl

/-- An eviction counts the event it takes out (R6). -/
theorem LaneQueue.Accounted.evict {x : LaneQueue} (h : x.Accounted) : x.evict.Accounted := by
  cases hy : evictYoungest x.events with
  | none => rwa [LaneQueue.evict_of_none hy]
  | some y =>
    have one : y.1.length + 1 = x.events.length := evictYoungest_length _ _ hy
    rw [LaneQueue.evict_of_some hy]
    simp only [LaneQueue.Accounted, ← one, BitVec.ofNat_add] at h ⊢
    rw [h]
    ac_rfl

theorem LaneQueue.Accounted.refuse {x : LaneQueue} (h : x.Accounted) (c : EventClass) : (x.refuse c).Accounted := by
  cases c <;> exact h

/-- A FETCH cuts the queue in two: the records it carries and those that stay (R14). -/
theorem takeRecords_append : ∀ (n room : Nat) (l : List EventRecord),
    (takeRecords n room l).1 ++ (takeRecords n room l).2 = l
  | 0, _, _ => rfl
  | _ + 1, _, [] => rfl
  | n + 1, room, r :: l => by
    unfold takeRecords
    split
    · simp [takeRecords_append n (room - r.size) l]
    · rfl

theorem LaneQueue.fetchable_append (x : LaneQueue) (n : Nat) : x.fetchable n ++ (x.fetched n).events = x.events :=
  takeRecords_append n _ _

theorem LaneQueue.Accounted.fetched {x : LaneQueue} (h : x.Accounted) (n : Nat) : (x.fetched n).Accounted := by
  have cut : x.events.length = (x.fetchable n).length + (x.fetched n).events.length := by
    rw [← List.length_append, LaneQueue.fetchable_append]
  simp only [LaneQueue.Accounted, cut, BitVec.ofNat_add] at h ⊢
  refine h.trans ?_
  simp only [LaneQueue.fetched]
  ac_rfl

theorem LaneQueue.Accounted.flush {x : LaneQueue} (h : x.Accounted) : x.flush.Accounted := by
  simp only [LaneQueue.Accounted, LaneQueue.flush, List.length_nil, BitVec.add_zero] at h ⊢
  rw [h]
  ac_rfl

/-- The five outcomes of an offer leave the lane's queue accounted for (R5). -/
theorem EventStore.Accounted.offer {st : EventStore} (h : st.Accounted) (q : LaneId) (e : Event) (r : Bool) :
    (st.offer q e r).1.Accounted := by
  unfold EventStore.offer
  cases st.verdict q e.cls with
  | intoReserve => exact h.withQueue q ((h q).admitEvent e r)
  | intoPool => exact h.withQueue q ((h q).admitEvent e r)
  | byEviction => exact h.withQueue q ((h q).evict.admitEvent e r)
  | refuse => exact h.withQueue q ((h q).refuse e.cls)

theorem EventStore.get_withSettings (st : EventStore) (a : AdmissionSettings) (q : LaneId) :
    (st.withSettings a).queues.get q = (st.queues.get q).resettle (a.reserves.get q) (a.watermarks.get q) := by
  match q with
  | 0 | 1 | 2 | 3 => rfl

theorem EventStore.accounted_kept : KeptByStore EventStore.Accounted where
  reset := State.reset_accounted
  filtered := fun _ q h => h.withQueue q (h q)
  offered := fun _ q e r h => h.offer q e r
  waited := fun _ q _ h => h.withQueue q (h q)
  fetched := fun _ q n h => h.withQueue q ((h q).fetched n)
  flushed := fun _ q h => h.withQueue q (h q).flush
  resettled := fun st a _ h q => by
    rw [EventStore.get_withSettings]
    exact h q

/-- Settles O15: every update of a queue moves an event from one term of the accounting to another, and a step that
clears no counters is made of such updates. -/
theorem queueAccountingKept : Obligations.QueueAccountingKept := by
  intro s t h hc hs
  obtain ⟨u, hu, hp⟩ :=
    step_keeps EventStore.accounted_kept.commands s (fun c rest hp hcc => absurd hcc (hc c rest hp)) h
  cases hs.symm.trans hu
  exact hp

/-! ## The shares of R3 -/

/-- The reserves are in their range, and the events beyond them fit the pool (R3). -/
def EventStore.Fits (st : EventStore) : Prop :=
  (∀ q, (st.queues.get q).reserve ≤ 32) ∧ st.sharedUsage ≤ st.poolSize

/-- What a queue holds beyond its reserve. -/
def LaneQueue.beyond (x : LaneQueue) : Nat := x.events.length - x.reserve

/-- Replacing one term of a sum over the lanes. -/
theorem laneSum_set {α : Type} (b : Lanes α) (q : LaneId) (x : α) (f : α → Nat) :
    (laneSum fun r => f ((b.set q x).get r)) + f (b.get q) = (laneSum fun r => f (b.get r)) + f x := by
  match q with
  | 0 | 1 | 2 | 3 => simp only [laneSum, Lanes.set, Lanes.get]; omega

theorem EventStore.sharedUsage_withQueue (st : EventStore) (q : LaneId) (x : LaneQueue) :
    (st.withQueue q x).sharedUsage + (st.queues.get q).beyond = st.sharedUsage + x.beyond :=
  laneSum_set st.queues q x LaneQueue.beyond

theorem EventStore.poolSize_withQueue (st : EventStore) (q : LaneId) {x : LaneQueue}
    (hx : x.reserve = (st.queues.get q).reserve) : (st.withQueue q x).poolSize = st.poolSize := by
  have same := laneSum_set st.queues q x LaneQueue.reserve
  simp only [hx, Nat.add_right_cancel_iff] at same
  rw [EventStore.poolSize, EventStore.poolSize, ← same]
  rfl

/-- A queue under its old reserve may replace the one of its lane where the pool has room for what it holds. -/
theorem EventStore.Fits.withQueue {st : EventStore} (h : st.Fits) (q : LaneId) {x : LaneQueue}
    (hr : x.reserve = (st.queues.get q).reserve)
    (hx : st.sharedUsage + x.beyond ≤ st.poolSize + (st.queues.get q).beyond) : (st.withQueue q x).Fits := by
  refine ⟨fun r => ?_, ?_⟩
  · rw [EventStore.withQueue, Lanes.get_set]
    split
    · rw [hr]
      exact h.1 q
    · exact h.1 r
  · have usage := st.sharedUsage_withQueue q x
    rw [st.poolSize_withQueue q hr]
    omega

/-- A queue that holds no more than before fits. -/
theorem EventStore.Fits.withShorter {st : EventStore} (h : st.Fits) (q : LaneId) {x : LaneQueue}
    (hr : x.reserve = (st.queues.get q).reserve) (hx : x.events.length ≤ (st.queues.get q).events.length) :
    (st.withQueue q x).Fits := by
  have usage := h.2
  refine h.withQueue q hr ?_
  unfold LaneQueue.beyond
  omega

@[simp] theorem LaneQueue.evict_reserve (x : LaneQueue) : x.evict.reserve = x.reserve := by
  cases h : evictYoungest x.events with
  | none => rw [LaneQueue.evict_of_none h]
  | some z => rw [LaneQueue.evict_of_some h]

@[simp] theorem LaneQueue.admitEvent_reserve (x : LaneQueue) (e : Event) (r : Bool) :
    (x.admitEvent e r).reserve = x.reserve := rfl

@[simp] theorem LaneQueue.admitEvent_length (x : LaneQueue) (e : Event) (r : Bool) :
    (x.admitEvent e r).events.length = x.events.length + 1 := by
  simp [LaneQueue.admitEvent]

theorem LaneQueue.evict_length {x : LaneQueue} (h : (evictYoungest x.events).isSome = true) :
    x.evict.events.length + 1 = x.events.length := by
  obtain ⟨y, hy⟩ := Option.isSome_iff_exists.1 h
  rw [LaneQueue.evict_of_some hy]
  exact evictYoungest_length _ _ hy

/-- What an outcome of the tests of R5 says of the store. -/
def EventStore.Allows (st : EventStore) (q : LaneId) : Verdict → Prop
  | .intoReserve => st.occ q < (st.queues.get q).reserve
  | .intoPool => st.sharedUsage < st.poolSize
  | .byEviction => (evictYoungest (st.queues.get q).events).isSome = true
  | .refuse => True

theorem EventStore.allows_verdict (st : EventStore) (q : LaneId) (c : EventClass) : st.Allows q (st.verdict q c) := by
  unfold EventStore.verdict
  by_cases hl : st.laneFull q c = true
  · rw [if_pos hl]
    trivial
  rw [if_neg hl]
  by_cases hr : st.occ q < (st.queues.get q).reserve
  · rw [if_pos hr]
    exact hr
  rw [if_neg hr]
  by_cases hp : st.poolOpen c = true
  · rw [if_pos hp]
    have room : st.sharedUsage < st.poolSize := of_decide_eq_true (Bool.and_eq_true_iff.1 hp).1
    exact room
  rw [if_neg hp]
  by_cases he : c = .critical ∧ (evictYoungest (st.queues.get q).events).isSome = true
  · rw [if_pos he]
    exact he.2
  · rw [if_neg he]
    trivial

theorem EventStore.Fits.offer {st : EventStore} (h : st.Fits) (q : LaneId) (e : Event) (r : Bool) :
    (st.offer q e r).1.Fits := by
  have spec := st.allows_verdict q e.cls
  have usage := h.2
  unfold EventStore.offer
  cases hv : st.verdict q e.cls with
  | intoReserve =>
    rw [hv] at spec
    refine h.withQueue q rfl ?_
    change (st.queues.get q).events.length < _ at spec
    simp only [LaneQueue.beyond, LaneQueue.admitEvent_length, LaneQueue.admitEvent_reserve]
    omega
  | intoPool =>
    rw [hv] at spec
    change st.sharedUsage < st.poolSize at spec
    refine h.withQueue q rfl ?_
    simp only [LaneQueue.beyond, LaneQueue.admitEvent_length, LaneQueue.admitEvent_reserve]
    omega
  | byEviction =>
    rw [hv] at spec
    have one := LaneQueue.evict_length spec
    refine h.withShorter q (LaneQueue.evict_reserve _) ?_
    rw [LaneQueue.admitEvent_length, one]
  | refuse => exact h.withShorter q rfl (Nat.le_refl _)

/-- Clamped reserves are in their range (R24). -/
theorem AdmissionSettings.clamped_reserve_le (a : AdmissionSettings) (q : LaneId) :
    a.clamped.reserves.get q ≤ 32 := by
  have : ∀ v, clamp 0 32 v ≤ 32 := fun v => by rw [clamp_zero_left]; exact Nat.min_le_left 32 v
  match q with
  | 0 | 1 | 2 | 3 => exact this _

theorem EventStore.Fits.withSettings (st : EventStore) (a : AdmissionSettings)
    (hf : st.fits a.clamped.reserves = true) : (st.withSettings a.clamped).Fits := by
  have fits := of_decide_eq_true hf
  refine ⟨fun q => ?_, fits⟩
  rw [EventStore.get_withSettings]
  exact a.clamped_reserve_le q

theorem EventStore.fits_kept : KeptByStore EventStore.Fits where
  reset := State.reset_storeFits
  filtered := fun _ q h => h.withShorter q rfl (Nat.le_refl _)
  offered := fun _ q e r h => h.offer q e r
  waited := fun _ q _ h => h.withShorter q rfl (Nat.le_refl _)
  fetched := fun st q n h => by
    refine h.withShorter q rfl ?_
    rw [← (st.queues.get q).fetchable_append n, List.length_append]
    exact Nat.le_add_left _ _
  flushed := fun _ q h => h.withShorter q rfl (Nat.zero_le _)
  resettled := fun st a hf _ => EventStore.Fits.withSettings st a hf

/-- Clearing counters leaves what every queue holds and its reserve (R196). -/
theorem EventStore.fits_clearCounters (s : State) (x : CounterScope) (h : s.store.Fits) :
    (s.clearCounters x).store.Fits := by
  cases x with
  | queue q => exact h.withShorter q rfl (Nat.le_refl _)
  | _ => exact h

/-- Settles O54: an admission finds a slot of the reserve, of the pool or of an evicted event; nothing else adds an event
or changes a reserve but SET_ADMISSION, which tests the fit. -/
theorem storeFitsKept : Obligations.StoreFitsKept :=
  step_keeps_all EventStore.fits_kept.commands EventStore.fits_clearCounters

end Sys2Proof.Machine

/-!
PROOF. The capacities of the Scan Meters, the recent-symbol lists and the link buffers (obligation O56): each invariant
speaks of one block, and is kept once the updates of that block keep it.
-/

namespace Sys2Proof.Machine

/-! ## The buckets of the Scan Meters (R126) -/

/-- Both buckets are within their capacities. -/
def Meter.Fits (m : Meter) : Prop := m.steady ≤ m.steadyCapacity * 1000 ∧ m.burst ≤ m.burstCapacity * 1000

/-- A refill caps both buckets (R126 steps 2 and 3). -/
theorem Meter.refill_fits (m : Meter) (t : Time) : (m.refill t).Fits :=
  ⟨Nat.min_le_right _ _, Nat.min_le_right _ _⟩

theorem Meter.Fits.takeTokens {m : Meter} (h : m.Fits) (g : Grade) : (m.takeTokens g).Fits := by
  unfold Meter.Fits at h ⊢
  cases g <;> simp only [Meter.takeTokens] <;> omega

theorem Meter.graded_fits (m : Meter) (t : Time) : (m.graded t).Fits :=
  (m.refill_fits t).takeTokens _

theorem Meter.Fits.paced {m : Meter} (h : m.Fits) (g : Grade) : (m.paced g).Fits := by
  unfold Meter.paced
  split
  · exact h
  · split <;> exact h

theorem Meter.configured_fits (m : Meter) (t : Time) (rate sc bc p : Nat) (on : Bool) :
    (m.configured t rate sc bc p on).Fits :=
  ⟨Nat.le_refl _, Nat.le_refl _⟩

theorem State.MetersFit.withMeter {s : State} (h : s.MetersFit) (q : LaneId) (p : PortId) {m : Meter} (hm : m.Fits) :
    (s.withMeter q p m).MetersFit := by
  intro r o
  rw [State.meter_withMeter]
  split
  · exact hm
  · exact h r o

theorem State.grantOne_meters (s : State) : s.grantOne.meters = s.meters := by
  unfold State.grantOne
  split <;> rfl

theorem State.offerFrame_meters (s : State) (f : RequestFrame) : (s.offerFrame f).meters = s.meters := by
  unfold State.offerFrame
  simp only
  repeat' split
  all_goals rfl

theorem State.metersFit_kept : KeptByCommands State.MetersFit := by
  constructor
  case toKeptByBlocks =>
    constructor
    case toKeptByEvents => constructor <;> (intros; assumption)
    all_goals intros; assumption
  case reset => exact fun _ _ _ _ _ => State.reset_metersFit
  case graded => exact fun s q p h => h.withMeter q p ((s.meter q p).graded_fits s.time)
  case paced => exact fun _ q p g h => h.withMeter q p (Meter.Fits.paced (h q p) g)
  case released => exact fun s q p t h => h.withMeter q p ((s.meter q p).refill_fits t)
  case metered => exact fun s q p a b c d e h => h.withMeter q p ((s.meter q p).configured_fits s.time a b c d e)
  case granted =>
    intro s h
    unfold State.MetersFit State.meter
    rw [State.grantOne_meters]
    exact h
  case offeredFrame =>
    intro s f h
    unfold State.MetersFit State.meter
    rw [State.offerFrame_meters]
    exact h
  all_goals intros; assumption

theorem State.metersFit_clearCounters (s : State) (x : CounterScope) (h : s.MetersFit) :
    (s.clearCounters x).MetersFit := by
  cases x <;> exact h

/-! ## The recent-symbol lists (R112 to R115) -/

/-- At most 8 entries, no two of the same symbology and data. -/
def RecentListFits (l : List RecentEntry) : Prop := l.length ≤ 8 ∧ (l.map fun e => (e.code, e.data)).Nodup

theorem recentListFits_nil : RecentListFits [] := ⟨Nat.zero_le 8, List.nodup_nil⟩

theorem RecentEntry.isMatch_iff (e : RecentEntry) (code : Byte) (data : List Byte) :
    e.isMatch code data = true ↔ (e.code, e.data) = (code, data) := by
  simp [RecentEntry.isMatch]

/-- The entries a refresh keeps: those the symbol does not match, less the oldest where there are 8. -/
def keptRecent (recent : List RecentEntry) (code : Byte) (data : List Byte) : List RecentEntry :=
  let others := recent.filter fun e => !e.isMatch code data
  if others.length < 8 then others else others.drop (others.length - 7)

theorem refreshed_eq (recent : List RecentEntry) (now : Time) (code : Byte) (data : List Byte) :
    refreshed recent now code data = keptRecent recent code data ++ [{ code := code, data := data, time := now }] := rfl

theorem keptRecent_length (recent : List RecentEntry) (code : Byte) (data : List Byte) :
    (keptRecent recent code data).length ≤ 7 := by
  unfold keptRecent
  simp only
  split
  · omega
  · rw [List.length_drop]
    omega

theorem keptRecent_sublist (recent : List RecentEntry) (code : Byte) (data : List Byte) :
    (keptRecent recent code data).Sublist (recent.filter fun e => !e.isMatch code data) := by
  unfold keptRecent
  simp only
  split
  · exact List.Sublist.refl _
  · exact List.drop_sublist _ _

/-- R113, R114: the refreshed list has room for the symbol and no other entry like it. -/
theorem RecentListFits.refreshed {recent : List RecentEntry} (h : RecentListFits recent) (now : Time) (code : Byte)
    (data : List Byte) : RecentListFits (refreshed recent now code data) := by
  have kept := keptRecent_sublist recent code data
  rw [refreshed_eq]
  refine ⟨?_, ?_⟩
  · have := keptRecent_length recent code data
    simp only [List.length_append, List.length_singleton]
    omega
  · rw [List.map_append, List.nodup_append]
    refine ⟨h.2.sublist ((kept.trans List.filter_sublist).map _), List.nodup_singleton _, ?_⟩
    intro a ha b hb
    obtain ⟨e, he, rfl⟩ := List.mem_map.1 ha
    obtain rfl : b = (code, data) := List.mem_singleton.1 hb
    have unlike := (List.mem_filter.1 (kept.subset he)).2
    intro like
    rw [(e.isMatch_iff code data).2 like] at unlike
    exact Bool.noConfusion unlike

theorem Checker.remember_fits {c : Checker} (h : RecentListFits c.recent) (now : Time) (code : Byte)
    (data : List Byte) : RecentListFits (c.remember now code data).recent := by
  unfold Checker.remember
  split
  · exact h
  · exact h.refreshed now code data

theorem State.RecentFits.withChecker {s : State} (h : s.RecentFits) (q : LaneId) {c : Checker}
    (hc : RecentListFits c.recent) : (s.withChecker q c).RecentFits := by
  intro r
  rw [State.withChecker_checkers, Lanes.get_set]
  split
  · exact hc
  · exact h r

theorem State.grantOne_checkers (s : State) : s.grantOne.checkers = s.checkers := by
  unfold State.grantOne
  split <;> rfl

theorem State.offerFrame_checkers (s : State) (f : RequestFrame) : (s.offerFrame f).checkers = s.checkers := by
  unfold State.offerFrame
  simp only
  repeat' split
  all_goals rfl

theorem State.recentFits_kept : KeptByCommands State.RecentFits := by
  constructor
  case toKeptByBlocks =>
    constructor
    case toKeptByEvents => constructor <;> (intros; assumption)
    case inbox => exact fun _ q _ h => h.withChecker q (h q)
    case emptied => exact fun _ q h => h.withChecker q recentListFits_nil
    all_goals intros; assumption
  case reset => exact fun _ _ _ _ _ => State.reset_recentFits
  case remembered => exact fun s q c d h => h.withChecker q (Checker.remember_fits (h q) s.time c d)
  case held => exact fun _ q _ h => h.withChecker q recentListFits_nil
  case checked => exact fun _ q _ _ h => h.withChecker q (h q)
  case granted =>
    intro s h
    unfold State.RecentFits
    rw [State.grantOne_checkers]
    exact h
  case offeredFrame =>
    intro s f h
    unfold State.RecentFits
    rw [State.offerFrame_checkers]
    exact h
  all_goals intros; assumption

theorem State.recentFits_clearCounters (s : State) (x : CounterScope) (h : s.RecentFits) :
    (s.clearCounters x).RecentFits := by
  cases x <;> exact h

/-! ## The receive buffer and the OVERRUN replies (R188) -/

/-- The OVERRUN replies of a list of messages. -/
def overrunsIn (l : List Message) : Nat := (l.filter fun m => m.origin == .overrun).length

theorem Link.overruns_eq (l : Link) : l.overruns = overrunsIn l.transmit := rfl

theorem overrunsIn_append (l m : List Message) : overrunsIn (l ++ m) = overrunsIn l + overrunsIn m := by
  simp [overrunsIn]

/-- Messages of other origins are not counted. -/
theorem overrunsIn_eq_zero {l : List Message} (h : ∀ m ∈ l, m.origin ≠ .overrun) : overrunsIn l = 0 := by
  simpa [overrunsIn] using h

theorem overrunsIn_singleton_le (m : Message) : overrunsIn [m] ≤ 1 := List.length_filter_le _ _

theorem overrunsIn_tail_le (m : Message) (l : List Message) : overrunsIn l ≤ overrunsIn (m :: l) := by
  rw [← List.singleton_append, overrunsIn_append]
  exact Nat.le_add_left _ _

/-- A message made and put behind the transmit path, where it is no OVERRUN reply or there is room for one. -/
theorem State.LinkFits.push {s : State} (h : s.LinkFits) (m : Message)
    (hm : m.origin ≠ .overrun ∨ s.link.overruns < 8) : (s.push m).LinkFits := by
  obtain ⟨buffer, overruns⟩ := h
  refine ⟨buffer, ?_⟩
  rw [Link.overruns_eq] at overruns hm ⊢
  rw [show (s.push m).link.transmit = s.link.transmit ++ [m] from rfl, overrunsIn_append]
  rcases hm with other | room
  · rwa [overrunsIn_eq_zero (List.forall_mem_singleton.2 other)]
  · have := overrunsIn_singleton_le m
    omega

/-- A frame is taken while the buffer holds fewer than 4, and answered OVERRUN while the path holds fewer than 8. -/
theorem State.LinkFits.offerFrame {s : State} (h : s.LinkFits) (f : RequestFrame) : (s.offerFrame f).LinkFits := by
  unfold State.offerFrame
  split
  · rename_i room
    refine ⟨?_, h.2⟩
    rw [List.length_append]
    exact room
  · simp only
    split
    · rename_i room
      exact State.LinkFits.push (s := { s with link := s.link.count fun c => { c with overrun := c.overrun + 1 } })
        h _ (Or.inr room)
    · exact h

theorem State.LinkFits.sent {s : State} (h : s.LinkFits) {m : Message} {l : List Message}
    (hl : s.link.transmit = m :: l) :
    { s with link := { s.link with transmit := l, hostLine := m.bytes } }.LinkFits := by
  refine ⟨h.1, Nat.le_trans (overrunsIn_tail_le m l) ?_⟩
  rw [← hl]
  exact h.2

/-- RESET_PART's own reply and the CANCELLED replies after it are no OVERRUN replies (R198). -/
theorem overrunsIn_cancelled (s : State) {m : Message} (hm : m.origin = .taken) :
    overrunsIn (s.link.transmit ++ m :: s.link.buffer.map s.cancelledReply) = overrunsIn s.link.transmit := by
  rw [overrunsIn_append, overrunsIn_eq_zero (l := m :: _), Nat.add_zero]
  intro x hx
  rcases List.mem_cons.1 hx with rfl | hx
  · rw [hm]
    exact nofun
  · obtain ⟨f, -, rfl⟩ := List.mem_map.1 hx
    exact nofun

theorem State.grantOne_link (s : State) : s.grantOne.link = s.link := by
  unfold State.grantOne
  split <;> rfl

theorem State.linkFits_kept : KeptByCommands State.LinkFits := by
  constructor
  case toKeptByBlocks =>
    constructor
    case toKeptByEvents =>
      constructor
      case push => exact fun _ m hm h => h.push m (Or.inl hm)
      all_goals intros; assumption
    all_goals intros; assumption
  case offeredFrame => exact fun _ f h => h.offerFrame f
  case popped =>
    intro s f l hl h
    refine ⟨Nat.le_trans (Nat.le_succ _) ?_, h.2⟩
    have buffer := h.1
    rwa [hl] at buffer
  case sent => exact fun _ _ _ hl h => h.sent hl
  case cancelledBuffer => exact fun s m hm h => ⟨Nat.zero_le 4, (overrunsIn_cancelled s hm).trans_le h.2⟩
  case reset => exact fun _ c x _ _ => Link.afterReset_fits c x
  case granted =>
    intro s h
    unfold State.LinkFits
    rw [State.grantOne_link]
    exact h
  all_goals intros; assumption

theorem State.linkFits_clearCounters (s : State) (x : CounterScope) (h : s.LinkFits) : (s.clearCounters x).LinkFits := by
  cases x <;> exact h

/-- Settles O56: a refill caps the buckets, a refresh keeps at most 7 other entries, and a frame or an OVERRUN reply is
taken only where there is room for it. -/
theorem capacitiesKept : Obligations.CapacitiesKept :=
  ⟨step_keeps_all State.metersFit_kept State.metersFit_clearCounters,
    step_keeps_all State.recentFits_kept State.recentFits_clearCounters,
    step_keeps_all State.linkFits_kept State.linkFits_clearCounters⟩

end Sys2Proof.Machine

/-!
PROOF. The Scanner Ports (obligation O57): the alignment state agrees with what is held in it (R87, R92), and the receiver
with the enable (R96). What each operation of a port does to the five fields of the one and the two of the other is said
per operation, following the calls.
-/

namespace Sys2Proof.Machine

/-! ## A byte in the ALIGNED position, by parts -/

/-- The minimum data length of the frame that the next byte belongs to (R100). -/
def ScannerPort.minHeld (x : ScannerPort) : Nat := if x.bytes.isEmpty then x.line.minData else x.frameMin

/-- The maximum data length of the frame that the next byte belongs to (R100). -/
def ScannerPort.maxHeld (x : ScannerPort) : Nat := if x.bytes.isEmpty then x.line.maxData else x.frameMax

/-- The port with the lengths and the time of a byte noted. -/
def ScannerPort.noted (now : Time) (x : ScannerPort) : ScannerPort :=
  { x with frameMin := x.minHeld, frameMax := x.maxHeld, lastByte := now }

theorem ScannerPort.frameByte_eq (x : ScannerPort) (now : Time) (p : PortId) (i : Bool) (b : RxByte) :
    x.frameByte now p i b =
      if x.line.format.lengthLimit x.maxHeld < (x.bytes ++ [b]).length then
        { x.noted now with framing := .skipping, bytes := [b] }.badFrame now p .overlength
      else if x.line.format.completes x.bytes.getLast? b then
        { x.noted now with bytes := [] }.endFrame now p i x.minHeld
          ((x.bytes ++ [b]).take ((x.bytes ++ [b]).length - x.line.format.terminatorLength))
      else ({ x.noted now with bytes := x.bytes ++ [b] }, []) := rfl

/-! ## Consistency of a port (R87, R92) -/

section
variable {x : ScannerPort}

/-- Consistency reads five fields of a port. -/
theorem ScannerPort.Consistent.congr (h : x.Consistent) {y : ScannerPort} (hl : y.line.lockCount = x.line.lockCount)
    (hh : y.hold = x.hold) (hc : y.candidateCount = x.candidateCount) (ha : y.alignment = x.alignment)
    (hw : y.window = x.window) : y.Consistent := by
  unfold ScannerPort.Consistent
  rw [hl, hh, hc, ha, hw]
  exact h

/-- A port may be LOCKED only with nothing held and a window, and stand elsewhere only without one. -/
theorem ScannerPort.Consistent.window_eq_none (h : x.Consistent) (ha : x.alignment ≠ .locked) : x.window = none := by
  obtain ⟨-, -, -, -, window⟩ := h
  exact Option.not_isSome_iff_eq_none.1 fun some => ha (window.1 some)

theorem ScannerPort.Consistent.leaveLocked (h : x.Consistent) (ha : x.alignment = .locked) (now : Time) (p : PortId)
    (r : LostReason) : (x.leaveLocked now p r).1.Consistent := by
  obtain ⟨lock, length, most, empty, -⟩ := h
  exact ⟨lock, length, most, fun _ => empty (by rw [ha]; exact nofun), iff_of_false nofun nofun⟩

theorem ScannerPort.Consistent.leaveCandidate (h : x.Consistent) (ha : x.alignment = .candidate) :
    x.leaveCandidate.Consistent := by
  have none : x.window = none := h.window_eq_none (by rw [ha]; exact nofun)
  refine ⟨h.1, rfl, Nat.zero_le 3, fun _ => rfl, iff_of_false ?_ nofun⟩
  simp [ScannerPort.leaveCandidate, none]

theorem ScannerPort.Consistent.toHunt (h : x.Consistent) (now : Time) (p : PortId) (r : LostReason) :
    (x.toHunt now p r).1.Consistent := by
  unfold ScannerPort.toHunt
  split
  · exact h
  · exact h.leaveCandidate ‹_›
  · exact h.leaveLocked ‹_› now p r

theorem ScannerPort.enterLocked_consistent (hl : x.line.lockCount ≤ 4) (p : PortId) (f : GoodFrame) :
    (x.enterLocked p f).1.Consistent :=
  ⟨hl, rfl, Nat.zero_le 3, fun _ => rfl, iff_of_true rfl rfl⟩

/-- A frame is held only below the lock count, so at most 3 are (R87). -/
theorem ScannerPort.Consistent.goodFrame (h : x.Consistent) (p : PortId) (f : GoodFrame) :
    (x.goodFrame p f).1.Consistent := by
  obtain ⟨lock, length, most, empty, window⟩ := h
  unfold ScannerPort.goodFrame
  simp only
  split
  · rename_i hunt
    split
    · exact ScannerPort.enterLocked_consistent lock p f
    · refine ⟨lock, rfl, (by decide : 1 ≤ 3), fun other => absurd rfl other, ?_⟩
      simpa [hunt] using window
  · rename_i candidate
    split
    · exact ScannerPort.enterLocked_consistent lock p f
    · have below : x.candidateCount + 1 ≤ 3 := by omega
      refine ⟨lock, ?_, below, fun other => absurd candidate other, window⟩
      simp [length]
  · exact ⟨lock, length, most, empty, window⟩

/-- An item counts in the window and in the excess counter only. -/
theorem ScannerPort.Consistent.countItem (h : x.Consistent) (now : Time) (p : PortId) :
    (x.countItem now p).1.Consistent := by
  unfold ScannerPort.countItem
  simp only
  split <;> exact h.congr rfl rfl rfl rfl rfl

@[simp] theorem ScannerPort.countItem_alignment (x : ScannerPort) (now : Time) (p : PortId) :
    (x.countItem now p).1.alignment = x.alignment := by
  unfold ScannerPort.countItem
  simp only
  split <;> rfl

theorem ScannerPort.Consistent.badFrame (h : x.Consistent) (now : Time) (p : PortId) (c : BadCause) :
    (x.badFrame now p c).1.Consistent := by
  unfold ScannerPort.badFrame
  simp only
  split
  · exact h.congr rfl rfl rfl rfl rfl
  · rename_i candidate
    exact ScannerPort.Consistent.leaveCandidate (h.congr rfl rfl rfl rfl rfl) candidate
  · rename_i locked
    have counted := ScannerPort.Consistent.countItem
      (x := { x with counters := x.counters.addCause c, consecutiveBad := x.consecutiveBad + 1 })
      (h.congr rfl rfl rfl rfl rfl) now p
    have still := (ScannerPort.countItem_alignment
      { x with counters := x.counters.addCause c, consecutiveBad := x.consecutiveBad + 1 } now p).trans locked
    split
    · exact counted.leaveLocked still now p .misframes
    · split
      · exact counted.leaveLocked still now p .excess
      · exact counted

theorem ScannerPort.Consistent.checkFailure (h : x.Consistent) (now : Time) (p : PortId) :
    (x.checkFailure now p).1.Consistent := by
  unfold ScannerPort.checkFailure
  simp only
  split
  · rename_i locked
    have counted := ScannerPort.Consistent.countItem
      (x := { x with counters := { x.counters with checkFailures := x.counters.checkFailures + 1 } })
      (h.congr rfl rfl rfl rfl rfl) now p
    have still := (ScannerPort.countItem_alignment
      { x with counters := { x.counters with checkFailures := x.counters.checkFailures + 1 } } now p).trans locked
    split
    · exact counted.leaveLocked still now p .excess
    · exact counted
  · exact h.congr rfl rfl rfl rfl rfl

theorem ScannerPort.Consistent.skip (h : x.Consistent) : x.skip.Consistent := h.congr rfl rfl rfl rfl rfl

theorem ScannerPort.Consistent.judgeGap (h : x.Consistent) (now : Time) (p : PortId) :
    (x.judgeGap now p).1.Consistent :=
  h.skip.badFrame now p .gap

theorem ScannerPort.Consistent.endFrame (h : x.Consistent) (now : Time) (p : PortId) (i : Bool) (n : Nat)
    (body : List RxByte) : (x.endFrame now p i n body).1.Consistent := by
  unfold ScannerPort.endFrame
  split
  · exact h
  · split
    · exact h.badFrame now p _
    · exact h.goodFrame p _

theorem ScannerPort.Consistent.skipByte (h : x.Consistent) (b : RxByte) : (x.skipByte b).Consistent := by
  unfold ScannerPort.skipByte
  split <;> exact h.congr rfl rfl rfl rfl rfl

theorem ScannerPort.Consistent.frameByte (h : x.Consistent) (now : Time) (p : PortId) (i : Bool) (b : RxByte) :
    (x.frameByte now p i b).1.Consistent := by
  rw [ScannerPort.frameByte_eq]
  split
  · refine ScannerPort.Consistent.badFrame ?_ now p .overlength
    exact h.congr rfl rfl rfl rfl rfl
  · split
    · refine ScannerPort.Consistent.endFrame ?_ now p i _ _
      exact h.congr rfl rfl rfl rfl rfl
    · exact h.congr rfl rfl rfl rfl rfl

theorem ScannerPort.Consistent.takeByte (h : x.Consistent) (now : Time) (p : PortId) (i : Bool) (b : RxByte) :
    (x.takeByte now p i b).1.Consistent := by
  unfold ScannerPort.takeByte
  split
  · exact h
  · split
    · exact h.skipByte b
    · split
      · exact (h.judgeGap now p).skipByte b
      · exact h.frameByte now p i b

theorem ScannerPort.Consistent.gapExpiry (h : x.Consistent) (now : Time) (p : PortId) :
    (x.gapExpiry now p).1.Consistent := by
  unfold ScannerPort.gapExpiry
  split
  · exact h.judgeGap now p
  · exact h

theorem ScannerPort.Consistent.break (h : x.Consistent) (now : Time) (p : PortId) :
    (x.break now p).1.Consistent := by
  unfold ScannerPort.break
  split
  · exact h.skip.toHunt now p _
  · exact h

/-- A window goes on into the next one, and no window starts by itself (R92). -/
theorem ScannerPort.Consistent.windowBoundary (h : x.Consistent) (now : Time) : (x.windowBoundary now).Consistent := by
  unfold ScannerPort.windowBoundary
  split
  · rename_i running
    split
    · obtain ⟨lock, length, most, empty, window⟩ := h
      rw [running] at window
      exact ⟨lock, length, most, empty, window⟩
    · exact h
  · exact h

theorem ScannerPort.Consistent.resync (h : x.Consistent) (now : Time) (p : PortId) :
    (x.resync now p).1.Consistent :=
  h.skip.toHunt now p .resync

theorem ScannerPort.Consistent.laneReset (h : x.Consistent) (now : Time) (p : PortId) :
    (x.laneReset now p).1.Consistent := by
  unfold ScannerPort.laneReset
  split
  · exact h.resync now p
  · exact h

theorem ScannerPort.Consistent.disable (h : x.Consistent) (now : Time) (p : PortId) :
    (x.disable now p).1.Consistent :=
  (h.skip.toHunt now p .disabled).congr rfl rfl rfl rfl rfl

theorem ScannerPort.Consistent.configure (h : x.Consistent) (now : Time) (p : PortId) (l : LineSettings) :
    (x.configure now p l.clamped).1.Consistent := by
  have lined : { x with line := l.clamped }.Consistent := by
    obtain ⟨-, length, most, empty, window⟩ := h
    exact ⟨Nat.max_le.2 ⟨by decide, Nat.min_le_left 4 _⟩, length, most, empty, window⟩
  unfold ScannerPort.configure
  simp only
  split
  · exact lined.resync now p
  · exact lined.gapExpiry now p

end

theorem State.PortsConsistent.withPort {s : State} (h : s.PortsConsistent) (q : LaneId) (p : PortId) {x : ScannerPort}
    (hx : x.Consistent) : (s.withPort q p x).PortsConsistent := by
  intro r o
  rw [State.port_withPort]
  split
  · exact hx
  · exact h r o

theorem State.grantOne_scanners (s : State) : s.grantOne.scanners = s.scanners := by
  unfold State.grantOne
  split <;> rfl

theorem State.offerFrame_scanners (s : State) (f : RequestFrame) : (s.offerFrame f).scanners = s.scanners := by
  unfold State.offerFrame
  simp only
  repeat' split
  all_goals rfl

theorem State.portsConsistent_kept : KeptByCommands State.PortsConsistent := by
  constructor
  case toKeptByBlocks =>
    constructor
    case toKeptByEvents => constructor <;> (intros; assumption)
    all_goals intros; assumption
  case reset => exact fun _ _ _ _ _ => State.reset_portsConsistent
  case tookByte => exact fun s q p i b h => h.withPort q p ((h q p).takeByte s.time p i b)
  case broke => exact fun s q p h => h.withPort q p ((h q p).break s.time p)
  case gapped => exact fun s q p h => h.withPort q p ((h q p).gapExpiry s.time p)
  case windowed => exact fun s q p h => h.withPort q p ((h q p).windowBoundary s.time)
  case checkFailed => exact fun s q p h => h.withPort q p ((h q p).checkFailure s.time p)
  case resynced => exact fun s q p h => h.withPort q p ((h q p).resync s.time p)
  case portReset => exact fun s q p h => h.withPort q p ((h q p).laneReset s.time p)
  case portDisabled =>
    exact fun s q p h => State.PortsConsistent.withPort (s := s.withEnable q (.scan p) false) h q p
      ((h q p).disable s.time p)
  case portEnabled =>
    exact fun s q p h => State.PortsConsistent.withPort (s := s.withEnable q (.scan p) true) h q p
      ((h q p).congr rfl rfl rfl rfl rfl)
  case lined => exact fun s q p l h => h.withPort q p ((h q p).configure s.time p l)
  case mapped => exact fun _ q p _ h => h.withPort q p ((h q p).congr rfl rfl rfl rfl rfl)
  case portCounted => exact fun _ q p _ h => h.withPort q p ((h q p).congr rfl rfl rfl rfl rfl)
  case granted =>
    intro s h
    unfold State.PortsConsistent State.port
    rw [State.grantOne_scanners]
    exact h
  case offeredFrame =>
    intro s f h
    unfold State.PortsConsistent State.port
    rw [State.offerFrame_scanners]
    exact h
  all_goals intros; assumption

theorem State.portsConsistent_clearCounters (s : State) (x : CounterScope) (h : s.PortsConsistent) :
    (s.clearCounters x).PortsConsistent := by
  cases x with
  | port q p => exact h.withPort q p ((h q p).congr rfl rfl rfl rfl rfl)
  | _ => exact h

/-! ## The receiver and the enable (R79, R96) -/

/-- The receiver is on exactly when v says so, and with it off the port stands in HUNT. -/
def ScannerPort.Follows (v : Bool) (x : ScannerPort) : Prop :=
  x.receiverOn = v ∧ (x.receiverOn = false → x.alignment = .hunt)

section
variable {v : Bool} {x : ScannerPort}

/-- Every way to HUNT ends in HUNT. -/
@[simp] theorem ScannerPort.toHunt_alignment (x : ScannerPort) (now : Time) (p : PortId) (r : LostReason) :
    (x.toHunt now p r).1.alignment = .hunt := by
  unfold ScannerPort.toHunt
  split
  · assumption
  · rfl
  · rfl

@[simp] theorem ScannerPort.toHunt_receiverOn (x : ScannerPort) (now : Time) (p : PortId) (r : LostReason) :
    (x.toHunt now p r).1.receiverOn = x.receiverOn := by
  unfold ScannerPort.toHunt
  split <;> rfl

@[simp] theorem ScannerPort.countItem_receiverOn (x : ScannerPort) (now : Time) (p : PortId) :
    (x.countItem now p).1.receiverOn = x.receiverOn := by
  unfold ScannerPort.countItem
  simp only
  split <;> rfl

@[simp] theorem ScannerPort.badFrame_receiverOn (x : ScannerPort) (now : Time) (p : PortId) (c : BadCause) :
    (x.badFrame now p c).1.receiverOn = x.receiverOn := by
  unfold ScannerPort.badFrame
  simp only
  split
  · rfl
  · rfl
  · split
    · exact ScannerPort.countItem_receiverOn _ now p
    · split <;> exact ScannerPort.countItem_receiverOn _ now p

@[simp] theorem ScannerPort.goodFrame_receiverOn (x : ScannerPort) (p : PortId) (f : GoodFrame) :
    (x.goodFrame p f).1.receiverOn = x.receiverOn := by
  unfold ScannerPort.goodFrame
  simp only
  split
  · split <;> rfl
  · split <;> rfl
  · rfl

@[simp] theorem ScannerPort.endFrame_receiverOn (x : ScannerPort) (now : Time) (p : PortId) (i : Bool) (n : Nat)
    (body : List RxByte) : (x.endFrame now p i n body).1.receiverOn = x.receiverOn := by
  unfold ScannerPort.endFrame
  split
  · rfl
  · split
    · exact ScannerPort.badFrame_receiverOn _ _ _ _
    · exact ScannerPort.goodFrame_receiverOn _ _ _

@[simp] theorem ScannerPort.frameByte_receiverOn (x : ScannerPort) (now : Time) (p : PortId) (i : Bool) (b : RxByte) :
    (x.frameByte now p i b).1.receiverOn = x.receiverOn := by
  rw [ScannerPort.frameByte_eq]
  split
  · exact ScannerPort.badFrame_receiverOn _ _ _ _
  · split
    · exact ScannerPort.endFrame_receiverOn _ _ _ _ _ _
    · rfl

@[simp] theorem ScannerPort.skipByte_receiverOn (x : ScannerPort) (b : RxByte) :
    (x.skipByte b).receiverOn = x.receiverOn := by
  unfold ScannerPort.skipByte
  split <;> rfl

@[simp] theorem ScannerPort.takeByte_receiverOn (x : ScannerPort) (now : Time) (p : PortId) (i : Bool) (b : RxByte) :
    (x.takeByte now p i b).1.receiverOn = x.receiverOn := by
  unfold ScannerPort.takeByte
  split
  · rfl
  · split
    · exact ScannerPort.skipByte_receiverOn _ _
    · split
      · exact (ScannerPort.skipByte_receiverOn _ _).trans (ScannerPort.badFrame_receiverOn _ _ _ _)
      · exact ScannerPort.frameByte_receiverOn _ _ _ _ _

/-- A port whose receiver is on follows an enable that is on, whatever its alignment. -/
theorem ScannerPort.follows_of_on {y : ScannerPort} (h : x.Follows v) (hon : x.receiverOn = true)
    (hy : y.receiverOn = x.receiverOn) : y.Follows v :=
  ⟨hy.trans h.1, fun off => absurd (off.symm.trans (hy.trans hon)) nofun⟩

theorem ScannerPort.Follows.congr (h : x.Follows v) {y : ScannerPort} (hr : y.receiverOn = x.receiverOn)
    (ha : y.alignment = x.alignment) : y.Follows v := by
  unfold ScannerPort.Follows
  rw [hr, ha]
  exact h

theorem ScannerPort.Follows.skip (h : x.Follows v) : x.skip.Follows v := h.congr rfl rfl

theorem ScannerPort.Follows.toHunt (h : x.Follows v) (now : Time) (p : PortId) (r : LostReason) :
    (x.toHunt now p r).1.Follows v :=
  ⟨(x.toHunt_receiverOn now p r).trans h.1, fun _ => x.toHunt_alignment now p r⟩

theorem ScannerPort.Follows.takeByte (h : x.Follows v) (now : Time) (p : PortId) (i : Bool) (b : RxByte) :
    (x.takeByte now p i b).1.Follows v := by
  by_cases hon : x.receiverOn = true
  · exact ScannerPort.follows_of_on h hon (x.takeByte_receiverOn now p i b)
  · unfold ScannerPort.takeByte
    rw [if_pos (by simpa using hon)]
    exact h

theorem ScannerPort.Follows.break (h : x.Follows v) (now : Time) (p : PortId) : (x.break now p).1.Follows v := by
  unfold ScannerPort.break
  split
  · exact h.skip.toHunt now p .lineBreak
  · exact h

/-- A gap can run out only while the receiver is on (R83). -/
theorem ScannerPort.Follows.gapExpiry (h : x.Follows v) (now : Time) (p : PortId) :
    (x.gapExpiry now p).1.Follows v := by
  unfold ScannerPort.gapExpiry
  split
  · rename_i expired
    have hon : x.receiverOn = true := by
      simp only [ScannerPort.gapExpired, ScannerPort.inFrame, Bool.and_eq_true] at expired
      obtain ⟨⟨⟨hon, -⟩, -⟩, -⟩ := expired
      exact hon
    exact ScannerPort.follows_of_on h hon (ScannerPort.badFrame_receiverOn _ now p _)
  · exact h

theorem ScannerPort.Follows.windowBoundary (h : x.Follows v) (now : Time) : (x.windowBoundary now).Follows v := by
  unfold ScannerPort.windowBoundary
  split
  · split
    · exact h.congr rfl rfl
    · exact h
  · exact h

/-- A check failure leaves a port that is not LOCKED in its state (R94). -/
theorem ScannerPort.Follows.checkFailure (h : x.Follows v) (now : Time) (p : PortId) :
    (x.checkFailure now p).1.Follows v := by
  unfold ScannerPort.checkFailure
  simp only
  split
  · have counted : ScannerPort.Follows v
        ({ x with counters := { x.counters with checkFailures := x.counters.checkFailures + 1 } }.countItem now p).1 :=
      h.congr (ScannerPort.countItem_receiverOn _ now p) (ScannerPort.countItem_alignment _ now p)
    split
    · exact ⟨counted.1, fun _ => rfl⟩
    · exact counted
  · exact h.congr rfl rfl

theorem ScannerPort.Follows.resync (h : x.Follows v) (now : Time) (p : PortId) : (x.resync now p).1.Follows v :=
  h.skip.toHunt now p .resync

theorem ScannerPort.Follows.laneReset (h : x.Follows v) (now : Time) (p : PortId) :
    (x.laneReset now p).1.Follows v := by
  unfold ScannerPort.laneReset
  split
  · exact h.resync now p
  · exact h

theorem ScannerPort.disable_follows (x : ScannerPort) (now : Time) (p : PortId) : (x.disable now p).1.Follows false :=
  ⟨rfl, fun _ => x.skip.toHunt_alignment now p .disabled⟩

theorem ScannerPort.enable_follows (x : ScannerPort) : x.enable.Follows true := ⟨rfl, nofun⟩

theorem ScannerPort.Follows.configure (h : x.Follows v) (now : Time) (p : PortId) (l : LineSettings) :
    (x.configure now p l).1.Follows v := by
  have lined : { x with line := l }.Follows v := h.congr rfl rfl
  unfold ScannerPort.configure
  simp only
  split
  · exact lined.resync now p
  · exact lined.gapExpiry now p

end

theorem State.PortsFollowEnables.withPort {s : State} (h : s.PortsFollowEnables) (q : LaneId) (p : PortId)
    {x : ScannerPort} (hx : x.Follows ((s.modes.get q).current.port p)) : (s.withPort q p x).PortsFollowEnables := by
  intro r o
  rw [State.port_withPort, State.withPort_modes]
  split
  · rename_i here
    obtain ⟨rfl, rfl⟩ := here
    exact hx
  · exact h r o

/-- The invariant reads the ports and their enables. -/
theorem State.PortsFollowEnables.congr {s t : State} (h : s.PortsFollowEnables) (hs : t.scanners = s.scanners)
    (hm : ∀ q p, (t.modes.get q).current.port p = (s.modes.get q).current.port p) : t.PortsFollowEnables := by
  intro q p
  unfold State.port
  rw [hs, hm]
  exact h q p

/-- The port enables of a set after one enable has changed. -/
theorem EnableSet.port_withEnable (e : EnableSet) (x : Enable) (v : Bool) (p : PortId) :
    (e.withEnable x v).port p = if x = .scan p then v else e.port p := by
  match x, p with
  | .keyboard, .a | .keyboard, .b | .drawer, .a | .drawer, .b => rfl
  | .scan .a, .a | .scan .a, .b | .scan .b, .a | .scan .b, .b => rfl

/-- An enable of no port is switched. -/
theorem State.port_enable_of_other (s : State) (q : LaneId) {x : Enable} (v : Bool) (hx : ∀ p, x ≠ .scan p) (r : LaneId)
    (p : PortId) : ((s.withEnable q x v).modes.get r).current.port p = (s.modes.get r).current.port p := by
  rw [State.withEnable_current]
  split
  · rw [EnableSet.port_withEnable, if_neg (hx p)]
  · rfl

/-- A port and its enable are switched together (R96). -/
theorem State.PortsFollowEnables.switched {s : State} (h : s.PortsFollowEnables) (q : LaneId) (p : PortId) {v : Bool}
    {x : ScannerPort} (hx : x.Follows v) : ((s.withEnable q (.scan p) v).withPort q p x).PortsFollowEnables := by
  intro r o
  rw [State.port_withPort, State.withPort_modes, State.withEnable_current]
  by_cases hr : r = q
  · subst hr
    rw [if_pos rfl, EnableSet.port_withEnable]
    by_cases ho : o = p
    · subst ho
      rw [if_pos ⟨rfl, rfl⟩, if_pos rfl]
      exact hx
    · rw [if_neg fun here => ho here.2, if_neg fun same => ho (Enable.scan.inj same).symm]
      exact h r o
  · rw [if_neg fun here => hr here.1, if_neg hr]
    exact h r o

theorem State.moded_current (s : State) (q r : LaneId) {m : LaneMode} (hm : m.current = (s.modes.get q).current) :
    ((s.modes.set q m).get r).current = (s.modes.get r).current := by
  rw [Lanes.get_set]
  split
  · rename_i here
    rw [here, hm]
  · rfl

theorem State.grantOne_modes (s : State) : s.grantOne.modes = s.modes := by
  unfold State.grantOne
  split <;> rfl

theorem State.offerFrame_modes (s : State) (f : RequestFrame) : (s.offerFrame f).modes = s.modes := by
  unfold State.offerFrame
  simp only
  repeat' split
  all_goals rfl

theorem State.portsFollowEnables_kept : KeptByCommands State.PortsFollowEnables := by
  constructor
  case toKeptByBlocks =>
    constructor
    case toKeptByEvents => constructor <;> (intros; assumption)
    all_goals intros; assumption
  case reset => exact fun _ _ _ _ _ => State.reset_portsFollowEnables
  case keysDisabled => exact fun s q h => h.congr rfl (s.port_enable_of_other q false nofun)
  case keysEnabled => exact fun s q h => h.congr rfl (s.port_enable_of_other q true nofun)
  case drawerSwitched => exact fun s q v h => h.congr rfl (s.port_enable_of_other q v nofun)
  case tookByte => exact fun s q p i b h => h.withPort q p (ScannerPort.Follows.takeByte (h q p) s.time p i b)
  case broke => exact fun s q p h => h.withPort q p (ScannerPort.Follows.break (h q p) s.time p)
  case gapped => exact fun s q p h => h.withPort q p (ScannerPort.Follows.gapExpiry (h q p) s.time p)
  case windowed => exact fun s q p h => h.withPort q p (ScannerPort.Follows.windowBoundary (h q p) s.time)
  case checkFailed => exact fun s q p h => h.withPort q p (ScannerPort.Follows.checkFailure (h q p) s.time p)
  case resynced => exact fun s q p h => h.withPort q p (ScannerPort.Follows.resync (h q p) s.time p)
  case portReset => exact fun s q p h => h.withPort q p (ScannerPort.Follows.laneReset (h q p) s.time p)
  case portDisabled => exact fun s q p h => h.switched q p ((s.port q p).disable_follows s.time p)
  case portEnabled => exact fun s q p h => h.switched q p (s.port q p).enable_follows
  case lined => exact fun s q p l h => h.withPort q p (ScannerPort.Follows.configure (h q p) s.time p l.clamped)
  case mapped => exact fun _ q p _ h => h.withPort q p (h q p)
  case portCounted => exact fun _ q p _ h => h.withPort q p (h q p)
  case moded =>
    exact fun s q m hm h => h.congr rfl fun r p => congrArg (EnableSet.port · p) (s.moded_current q r hm)
  case granted => exact fun s h => h.congr s.grantOne_scanners fun q p => by rw [s.grantOne_modes]
  case offeredFrame => exact fun s f h => h.congr (s.offerFrame_scanners f) fun q p => by rw [s.offerFrame_modes]
  all_goals intros; assumption

theorem State.portsFollowEnables_clearCounters (s : State) (x : CounterScope) (h : s.PortsFollowEnables) :
    (s.clearCounters x).PortsFollowEnables := by
  cases x with
  | port q p => exact h.withPort q p (h q p)
  | _ => exact h

/-- Settles O57: every operation of a port goes from one consistent state to another, and a receiver that is off lets no
byte and no gap through that could take the port out of HUNT. -/
theorem portsKept : Obligations.PortsKept :=
  ⟨step_keeps_all State.portsConsistent_kept State.portsConsistent_clearCounters,
    step_keeps_all State.portsFollowEnables_kept State.portsFollowEnables_clearCounters⟩

end Sys2Proof.Machine

/-!
PROOF. The reported keys of a lane (obligation O55): at most as many as the rollover limit, in ascending order, and none
with the KEYBOARD enable off (R62, R68).
-/

namespace Sys2Proof.Machine

/-! ## The reported-down set -/

/-- The reported keys are within the rollover limit and in ascending position order. -/
def Keyboard.Fits (k : Keyboard) : Prop :=
  k.reported.length ≤ k.settings.rolloverLimit ∧ (k.reported.map ReportedKey.position).Pairwise (· ≤ ·)

theorem perm_insertReported (r : ReportedKey) : ∀ l : List ReportedKey, (insertReported r l).Perm (r :: l)
  | [] => List.Perm.refl _
  | x :: l => by
    unfold insertReported
    split
    · exact List.Perm.refl _
    · exact ((perm_insertReported r l).cons x).trans (List.Perm.swap r x l)

/-- A key joins an ascending list at its place. -/
theorem ascending_insertReported (r : ReportedKey) : ∀ l : List ReportedKey,
    (l.map ReportedKey.position).Pairwise (· ≤ ·) → ((insertReported r l).map ReportedKey.position).Pairwise (· ≤ ·)
  | [], _ => List.pairwise_singleton _ _
  | x :: l, h => by
    rw [List.map_cons, List.pairwise_cons] at h
    obtain ⟨least, rest⟩ := h
    unfold insertReported
    split
    · rename_i before
      rw [List.map_cons, List.map_cons, List.pairwise_cons, List.pairwise_cons]
      refine ⟨fun a ha => ?_, least, rest⟩
      rcases List.mem_cons.1 ha with rfl | ha
      · exact Fin.le_of_lt before
      · exact Fin.le_trans (Fin.le_of_lt before) (least a ha)
    · rename_i behind
      rw [List.map_cons, List.pairwise_cons]
      refine ⟨fun a ha => ?_, ascending_insertReported r l rest⟩
      obtain ⟨y, hy, rfl⟩ := List.mem_map.1 ha
      rcases List.mem_cons.1 ((perm_insertReported r l).mem_iff.1 hy) with rfl | hy
      · exact Nat.le_of_not_lt behind
      · exact least _ (List.mem_map_of_mem hy)

/-- A property of a unit that each step of a list of steps keeps is kept by the list. -/
theorem runAll_keeps {α β : Type} {P : α → Prop} {f : β → α → α × List LaneEffect} (hf : ∀ b a, P a → P (f b a).1) :
    ∀ (l : List β) (a : α), P a → P (runAll f l a).1
  | [], _, h => h
  | b :: l, a, h => runAll_keeps hf l (f b a).1 (hf b a h)

theorem Keyboard.Fits.congr {k k' : Keyboard} (h : k.Fits) (hr : k'.reported = k.reported)
    (hl : k'.settings.rolloverLimit = k.settings.rolloverLimit) : k'.Fits := by
  unfold Keyboard.Fits
  rw [hr, hl]
  exact h

theorem Keyboard.fits_of_nil {k : Keyboard} (h : k.reported = []) : k.Fits := by
  unfold Keyboard.Fits
  rw [h]
  exact ⟨Nat.zero_le _, List.Pairwise.nil⟩

/-- A key is reported where there is room (R59, R62). -/
theorem Keyboard.Fits.report {k : Keyboard} (h : k.Fits) (hr : k.hasRoom = true) (t : Time) (p : KeyPos) :
    (Keyboard.report t p k).1.Fits := by
  have room : k.reported.length < k.settings.rolloverLimit := of_decide_eq_true hr
  refine ⟨?_, ascending_insertReported _ _ h.2⟩
  exact (perm_insertReported _ k.reported).length_eq.trans_le room

theorem Keyboard.Fits.rollover {k : Keyboard} (h : k.Fits) (t : Time) (p : KeyPos) :
    (Keyboard.rollover t p k).1.Fits := by
  unfold Keyboard.rollover
  split
  · exact h.report ‹_› t p
  · exact h.congr rfl rfl

theorem Keyboard.Fits.releaseKey {k : Keyboard} (h : k.Fits) (t : Time) (p : KeyPos) :
    (Keyboard.releaseKey t p k).1.Fits := by
  unfold Keyboard.releaseKey
  split
  · refine ⟨Nat.le_trans (List.length_filter_le _ _) h.1, h.2.sublist ?_⟩
    exact List.filter_sublist.map _
  · exact h.congr rfl rfl

theorem Keyboard.Fits.promote (t : Time) : ∀ (n : Nat) {k : Keyboard}, k.Fits → (Keyboard.promote t n k).1.Fits
  | 0, _, h => h
  | n + 1, k, h => by
    unfold Keyboard.promote
    split
    · exact h
    · split
      · rename_i rest _ room
        have next : Keyboard.Fits { k with waiting := rest } := h.congr rfl rfl
        exact Keyboard.Fits.promote t n (next.report room t _)
      · exact h

theorem Keyboard.Fits.retest {k : Keyboard} (h : k.Fits) (t : Time) : (k.retest t).1.Fits :=
  runAll_keeps (fun b _ hk => hk.rollover t b.position) _ _ (h.congr rfl rfl)

theorem Keyboard.Fits.pressKey {k : Keyboard} (h : k.Fits) (t : Time) (muted : Bool) (p : KeyPos) :
    (Keyboard.pressKey t muted p k).1.Fits := by
  unfold Keyboard.pressKey
  split
  · exact h
  · split
    · exact h.congr rfl rfl
    · split
      · exact h.congr rfl rfl
      · exact h.rollover t p

/-- The five stages of a sample, one after another (R56). -/
theorem Keyboard.Fits.sample {k : Keyboard} (h : k.Fits) (now : Time) (muted : Bool) (raw : BitVec 128) :
    (k.sample now muted raw).1.Fits := by
  have recorded : (k.recordRaw now raw).Fits := h.congr rfl rfl
  unfold Keyboard.sample
  simp only
  split
  · exact recorded
  · have released := runAll_keeps (P := Keyboard.Fits) (fun p _ hk => hk.releaseKey now p)
      ((allPositions.filter fun p => (k.recordRaw now raw).accepts now p).filter fun p => (k.recordRaw now raw).down p)
      { k.recordRaw now raw with
        debounced := (k.recordRaw now raw).debounced ^^^ maskWhere fun p => (k.recordRaw now raw).accepts now p }
      (recorded.congr rfl rfl)
    exact runAll_keeps (P := Keyboard.Fits) (fun p _ hk => hk.pressKey now muted p) _ _
      ((released.promote now _).retest now)

theorem Keyboard.typematicTest_reported (k : Keyboard) (now : Time) :
    (k.typematicTest now).1.reported = k.reported ∧ (k.typematicTest now).1.settings = k.settings := by
  unfold Keyboard.typematicTest
  split
  · exact ⟨rfl, rfl⟩
  · split
    · split <;> exact ⟨rfl, rfl⟩
    · exact ⟨rfl, rfl⟩

/-- A sample of the key lock changes the key lock only. -/
theorem Keyboard.keylockSample_eq (k : Keyboard) (now : Time) (i : BitVec 4) :
    ∃ l, (k.keylockSample now i).1 = { k with keylock := l } := by
  unfold Keyboard.keylockSample
  simp only
  repeat' split
  all_goals exact ⟨_, rfl⟩

theorem Keyboard.keylockSample_reported (k : Keyboard) (now : Time) (i : BitVec 4) :
    (k.keylockSample now i).1.reported = k.reported ∧ (k.keylockSample now i).1.settings = k.settings := by
  obtain ⟨l, hl⟩ := k.keylockSample_eq now i
  rw [hl]
  exact ⟨rfl, rfl⟩

theorem Keyboard.keylockFaultTest_reported (k : Keyboard) (now : Time) :
    (k.keylockFaultTest now).1.reported = k.reported ∧ (k.keylockFaultTest now).1.settings = k.settings := by
  unfold Keyboard.keylockFaultTest
  split
  · exact ⟨rfl, rfl⟩
  · split <;> exact ⟨rfl, rfl⟩

theorem Keyboard.writeEntry_reported (k : Keyboard) (p : KeyPos) (e : KeyEntry) :
    (k.writeEntry p e).reported = k.reported ∧ (k.writeEntry p e).settings = k.settings := by
  unfold Keyboard.writeEntry
  simp only
  repeat' split
  all_goals exact ⟨rfl, rfl⟩

theorem Keyboard.writeEntries_reported : ∀ (l : List KeyEntry) (n : Nat) (k : Keyboard),
    (Keyboard.writeEntries n l k).reported = k.reported ∧ (Keyboard.writeEntries n l k).settings = k.settings
  | [], _, _ => ⟨rfl, rfl⟩
  | e :: l, n, k => by
    unfold Keyboard.writeEntries
    split
    · rename_i hn
      obtain ⟨reported, settings⟩ := Keyboard.writeEntries_reported l (n + 1) (k.writeEntry ⟨n, hn⟩ e)
      obtain ⟨reported', settings'⟩ := k.writeEntry_reported ⟨n, hn⟩ e
      exact ⟨reported.trans reported', settings.trans settings'⟩
    · exact Keyboard.writeEntries_reported l (n + 1) k

/-! ## The unit and its enable -/

/-- What the invariant says of one lane, with its KEYBOARD enable on or off. -/
def Keyboard.FitsUnder (on : Bool) (k : Keyboard) : Prop :=
  k.reported.length ≤ k.settings.rolloverLimit ∧ (on = false → k.reported = []) ∧
    (k.reported.map ReportedKey.position).Pairwise (· ≤ ·)

theorem Keyboard.fitsUnder_iff (on : Bool) (k : Keyboard) :
    k.FitsUnder on ↔ k.Fits ∧ (on = false → k.reported = []) :=
  ⟨fun ⟨limit, off, order⟩ => ⟨⟨limit, order⟩, off⟩, fun ⟨⟨limit, order⟩, off⟩ => ⟨limit, off, order⟩⟩

theorem Keyboard.fitsUnder_of_nil {k : Keyboard} (h : k.reported = []) (on : Bool) : k.FitsUnder on :=
  (k.fitsUnder_iff on).2 ⟨Keyboard.fits_of_nil h, fun _ => h⟩

theorem Keyboard.FitsUnder.congr {on : Bool} {k k' : Keyboard} (h : k.FitsUnder on)
    (hk : k'.reported = k.reported ∧ k'.settings = k.settings) : k'.FitsUnder on := by
  unfold Keyboard.FitsUnder
  rw [hk.1, hk.2]
  exact h

/-- A change of the rollover limit with the enable on empties the set (R76); with the enable off it is empty. -/
theorem Keyboard.FitsUnder.configure {on : Bool} {k : Keyboard} (h : k.FitsUnder on) (t : Time)
    (g : KeyboardSettings) : (k.configure t on g).1.FitsUnder on := by
  unfold Keyboard.configure
  split
  · exact Keyboard.fitsUnder_of_nil rfl on
  · rename_i kept
    cases on with
    | false =>
      have none : k.reported = [] := h.2.1 rfl
      exact Keyboard.fitsUnder_of_nil (k := { k with settings := g }) none false
    | true =>
      have same : k.settings.rolloverLimit = g.rolloverLimit := by
        simp only [KeyboardSettings.restarts, Bool.and_true, Bool.or_eq_true, decide_eq_true_eq, not_or, not_not]
          at kept
        exact kept.2
      exact (Keyboard.fitsUnder_iff _ _).2 ⟨((k.fitsUnder_iff true).1 h).1.congr rfl same.symm, nofun⟩

/-- The invariant, lane by lane. -/
theorem State.KeysFit.lane {s : State} (h : s.KeysFit) (q : LaneId) :
    (s.keyboards.get q).FitsUnder (s.modes.get q).current.keyboard := h q

theorem State.KeysFit.withKeyboard {s : State} (h : s.KeysFit) (q : LaneId) {k : Keyboard}
    (hk : k.FitsUnder (s.modes.get q).current.keyboard) : (s.withKeyboard q k).KeysFit := by
  intro r
  rw [State.withKeyboard_keyboards, State.withKeyboard_modes, Lanes.get_set]
  split
  · rename_i here
    rw [here]
    exact hk
  · exact h r

/-- The invariant reads the keyboards and their enables. -/
theorem State.KeysFit.congr {s t : State} (h : s.KeysFit) (hk : t.keyboards = s.keyboards)
    (hm : ∀ q, (t.modes.get q).current.keyboard = (s.modes.get q).current.keyboard) : t.KeysFit := by
  intro q
  rw [hk, hm]
  exact h q

theorem EnableSet.keyboard_withEnable (e : EnableSet) (x : Enable) (v : Bool) :
    (e.withEnable x v).keyboard = if x = .keyboard then v else e.keyboard := by
  match x with
  | .keyboard | .drawer | .scan .a | .scan .b => rfl

theorem State.keyboard_enable_of_other (s : State) (q : LaneId) {x : Enable} (v : Bool) (hx : x ≠ .keyboard)
    (r : LaneId) : ((s.withEnable q x v).modes.get r).current.keyboard = (s.modes.get r).current.keyboard := by
  rw [State.withEnable_current]
  split
  · rw [EnableSet.keyboard_withEnable, if_neg hx]
  · rfl

/-- A keyboard and its enable are switched together (R68, R69). -/
theorem State.KeysFit.switched {s : State} (h : s.KeysFit) (q : LaneId) {v : Bool} {k : Keyboard}
    (hk : k.FitsUnder v) : ((s.withEnable q .keyboard v).withKeyboard q k).KeysFit := by
  intro r
  rw [State.withKeyboard_keyboards, State.withKeyboard_modes, Lanes.get_set, State.withEnable_current]
  by_cases hr : r = q
  · rw [if_pos hr, if_pos hr, EnableSet.keyboard_withEnable, if_pos rfl]
    exact hk
  · rw [if_neg hr, if_neg hr]
    exact h r

theorem State.grantOne_keyboards (s : State) : s.grantOne.keyboards = s.keyboards := by
  unfold State.grantOne
  split <;> rfl

theorem State.offerFrame_keyboards (s : State) (f : RequestFrame) : (s.offerFrame f).keyboards = s.keyboards := by
  unfold State.offerFrame
  simp only
  repeat' split
  all_goals rfl

theorem State.keysFit_kept : KeptByCommands State.KeysFit := by
  constructor
  case toKeptByBlocks =>
    constructor
    case toKeptByEvents => constructor <;> (intros; assumption)
    case muted => exact fun s q h => h.withKeyboard q (Keyboard.fitsUnder_of_nil rfl _)
    all_goals intros; assumption
  case reset => exact fun _ _ _ _ _ => State.reset_keysFit
  case sampled =>
    intro s q m raw hon h
    refine h.withKeyboard q ?_
    rw [hon]
    exact (Keyboard.fitsUnder_iff _ _).2 ⟨((Keyboard.fitsUnder_iff _ _).1 (h.lane q)).1.sample s.time m raw, nofun⟩
  case repeated => exact fun s q h => h.withKeyboard q ((h.lane q).congr (Keyboard.typematicTest_reported _ s.time))
  case firstSampled => exact fun s q _ h => h.withKeyboard q ((h.lane q).congr ⟨rfl, rfl⟩)
  case keylocked => exact fun s q i h => h.withKeyboard q ((h.lane q).congr (Keyboard.keylockSample_reported _ s.time i))
  case keyFaulted => exact fun s q h => h.withKeyboard q ((h.lane q).congr (Keyboard.keylockFaultTest_reported _ s.time))
  case keysDisabled => exact fun s q h => h.switched q (Keyboard.fitsUnder_of_nil rfl false)
  case keysEnabled =>
    exact fun s q h => h.switched q
      ((Keyboard.fitsUnder_iff _ _).2 ⟨((Keyboard.fitsUnder_iff _ _).1 (h.lane q)).1.congr rfl rfl, nofun⟩)
  case restarted => exact fun s q h => h.withKeyboard q (Keyboard.fitsUnder_of_nil rfl _)
  case keysWritten => exact fun s q n l h => h.withKeyboard q ((h.lane q).congr (Keyboard.writeEntries_reported l n _))
  case keysConfigured => exact fun s q g h => h.withKeyboard q ((h.lane q).configure s.time g.clamped)
  case portDisabled => exact fun s q p h => h.congr rfl (s.keyboard_enable_of_other q false nofun)
  case portEnabled => exact fun s q p h => h.congr rfl (s.keyboard_enable_of_other q true nofun)
  case drawerSwitched => exact fun s q v h => h.congr rfl (s.keyboard_enable_of_other q v nofun)
  case moded => exact fun s q m hm h => h.congr rfl fun r => congrArg EnableSet.keyboard (s.moded_current q r hm)
  case granted => exact fun s h => h.congr s.grantOne_keyboards fun q => by rw [s.grantOne_modes]
  case offeredFrame => exact fun s f h => h.congr (s.offerFrame_keyboards f) fun q => by rw [s.offerFrame_modes]
  all_goals intros; assumption

theorem State.keysFit_clearCounters (s : State) (x : CounterScope) (h : s.KeysFit) : (s.clearCounters x).KeysFit := by
  cases x with
  | keyboard q => exact h.withKeyboard q ((h.lane q).congr ⟨rfl, rfl⟩)
  | _ => exact h

/-- Settles O55: a key is reported where there is room and at its place, only while the enable is on, and a change of the
limit empties the set. -/
theorem keysFitKept : Obligations.KeysFitKept :=
  step_keeps_all State.keysFit_kept State.keysFit_clearCounters

end Sys2Proof.Machine

/-!
PROOF. What a command does, taken operation by operation: a property that is broken within the handing on of an effect, of
an enable or of a pacing hold, and stands again after it, is kept by every command once each operation as a whole keeps it.
A property that is put right only by the settling of the monitors is weaker before it (W) than after it (P); a command that
does not settle leaves what the conditions read as it was (Quiet). The invariants of obligations O2, O58 and O59 are
proved by this.
-/

namespace Sys2Proof.Machine

/-! ## What the conditions of the monitors read -/

/-- Nothing that a monitor or its condition reads has changed from s to t (R157). -/
structure Quiet (s t : State) : Prop where
  isOpen : ∀ q, (t.drawers.get q).isOpen = (s.drawers.get q).isOpen
  fault : ∀ q, (t.drawers.get q).fault = (s.drawers.get q).fault
  keylock : ∀ q, (t.keyboards.get q).keylock.position = (s.keyboards.get q).keylock.position
  alignment : ∀ q p, (t.port q p).alignment = (s.port q p).alignment
  occ : ∀ q, t.store.occ q = s.store.occ q
  holds : ∀ q p, (t.meter q p).holds = (s.meter q p).holds
  monitors : t.interlocks.monitors = s.interlocks.monitors

theorem Quiet.of_eq {s t : State} (hd : t.drawers = s.drawers) (hk : t.keyboards = s.keyboards)
    (hs : t.scanners = s.scanners) (ho : ∀ q, t.store.occ q = s.store.occ q) (hm : t.meters = s.meters)
    (hi : t.interlocks.monitors = s.interlocks.monitors) : Quiet s t where
  isOpen := fun q => by rw [hd]
  fault := fun q => by rw [hd]
  keylock := fun q => by rw [hk]
  alignment := fun q p => by unfold State.port; rw [hs]
  occ := ho
  holds := fun q p => by unfold State.meter; rw [hm]
  monitors := hi

theorem Quiet.keyboard (s : State) (q : LaneId) {k : Keyboard}
    (hk : k.keylock.position = (s.keyboards.get q).keylock.position) : Quiet s (s.withKeyboard q k) where
  isOpen := fun _ => rfl
  fault := fun _ => rfl
  keylock := fun r => by
    rw [State.withKeyboard_keyboards, Lanes.get_set]
    split
    · rename_i here
      rw [here, hk]
    · rfl
  alignment := fun _ _ => rfl
  occ := fun _ => rfl
  holds := fun _ _ => rfl
  monitors := rfl

theorem Quiet.port (s : State) (q : LaneId) (p : PortId) {x : ScannerPort}
    (hx : x.alignment = (s.port q p).alignment) : Quiet s (s.withPort q p x) where
  isOpen := fun _ => rfl
  fault := fun _ => rfl
  keylock := fun _ => rfl
  alignment := fun r o => by
    rw [State.port_withPort]
    split
    · rename_i here
      rw [here.1, here.2, hx]
    · rfl
  occ := fun _ => rfl
  holds := fun _ _ => rfl
  monitors := rfl

/-- A drawer that stays open or shut, with its fault flag as it was; the arbiter is not read. -/
theorem Quiet.drawer (s : State) (a : Arbiter) (q : LaneId) {d : Drawer} (ho : d.isOpen = (s.drawers.get q).isOpen)
    (hf : d.fault = (s.drawers.get q).fault) : Quiet s ({ s with arbiter := a }.withDrawer q d) where
  isOpen := fun r => by
    rw [State.withDrawer_drawers, Lanes.get_set]
    split
    · rename_i here
      rw [here, ho]
    · rfl
  fault := fun r => by
    rw [State.withDrawer_drawers, Lanes.get_set]
    split
    · rename_i here
      rw [here, hf]
    · rfl
  keylock := fun _ => rfl
  alignment := fun _ _ => rfl
  occ := fun _ => rfl
  holds := fun _ _ => rfl
  monitors := rfl

theorem Quiet.conditionValue {s t : State} (h : Quiet s t) (m : MonitorSettings) :
    t.conditionValue m = s.conditionValue m := by
  have scanner := h.alignment m.sourceLane (portParam m.portParam)
  have meter := h.holds m.sourceLane (portParam m.portParam)
  unfold State.port at scanner
  unfold State.meter at meter
  unfold State.conditionValue
  cases m.condition with
  | drawerOpen => exact h.isOpen _
  | drawerFault => exact h.fault _
  | keylockIs => simp only [h.keylock]
  | scannerNotLocked => simp only [scanner]
  | queueAtLeast => simp only [h.occ]
  | pacing => exact meter

theorem Quiet.matchOf {s t : State} (h : Quiet s t) (m : MonitorSettings) : t.matchOf m = s.matchOf m := by
  unfold State.matchOf
  rw [h.conditionValue]

/-! ## The operations -/

/-- What the commands do before the monitors settle: each operation keeps W. -/
structure KeptWeakly (W : State → Prop) : Prop where
  linked : ∀ s l, W s → W { s with link := l }
  tabled : ∀ s t, W s → W { s with table := t }
  patterned : ∀ s p, W s → W { s with patterns := p }
  freed : ∀ s n, W s → W { s with freeIndex := n }
  stored : ∀ s st, W s → W { s with store := st }
  produced : ∀ s q t b, W s → W (s.produce q t b)
  signalled : ∀ s q o f, W s → W (s.updateSignal q o f)
  inhibited : ∀ s q p l, W s → W (s.setInhibit q p l)
  checkered : ∀ s q c, W s → W (s.withChecker q c)
  keyed : ∀ s q k, W s → W (s.withKeyboard q k)
  ported : ∀ s q p x, W s → W (s.withPort q p x)
  -- a meter whose hold goes on or stays away, and one whose hold may change, with the inhibit it asserts
  metered : ∀ s q p m, m.holds = (s.meter q p).holds → W s → W (s.withMeter q p m)
  held : ∀ s q p m, W s → W ((s.withMeter q p m).resolveInhibit q p)
  tookChange : ∀ s i, (s.monitor i).settings.enabled = true → W s → W (s.takeChange i)
  qualified : ∀ s i t, (s.monitor i).qualifyExpiry = some t → W s →
    W (s.turnMonitor i t ({ s.monitor i with state := .active }, .entered))
  letGo : ∀ s i, (s.monitor i).state = .active → (s.monitor i).isMatch = false → W s →
    W (s.turnMonitor i s.time ({ s.monitor i with state := .inactive }, .left .released))
  rewrote : ∀ s i g, W s → W (s.rewriteMonitor i g)
  enabled : ∀ s q x, W s → W (State.handEnable q (s.withEnable q x.1 x.2) x)
  moded : ∀ s q m, m.current = (s.modes.get q).current → W s → W { s with modes := s.modes.set q m }
  granted : ∀ s, W s → W s.grantOne
  abandoned : ∀ s q t r, (s.drawers.get q).isQueued = true → W s →
    W ({ s with arbiter := s.arbiter.withdraw q }.withDrawer q ((s.drawers.get q).abandon t r).1)
  enqueued : ∀ s q, (s.drawers.get q).state = .closed → (s.interlocks.conditions.get q).lockedOut = false → W s →
    W ({ s with arbiter := s.arbiter.join q }.withDrawer q ((s.drawers.get q).enqueue s.time))
  pulsed : ∀ s q e, (s.drawers.get q).pulseDue s.time = some e → W s →
    W ({ s with arbiter := s.arbiter.release q }.withDrawer q ((s.drawers.get q).pulseEnded e))
  -- a drawer that keeps its state
  kept : ∀ s q d, d.state = (s.drawers.get q).state → W s → W (s.withDrawer q d)
  openedDrawer : ∀ s q d, W s → W ({ s with arbiter := (s.arbiter.release q).withdraw q }.withDrawer q
    (Drawer.senseOpened s.time d).1)
  closedDrawer : ∀ s q d, d.state = (s.drawers.get q).state → W s →
    W (s.withDrawer q (Drawer.senseClosed s.time d).1)
  confirmed : ∀ s q, W s → W (s.withDrawer q ((s.drawers.get q).confirmExpired s.time).1)
  leftOpened : ∀ s q, W s → W (s.withDrawer q ((s.drawers.get q).leftOpenExpired s.time).1)

/-- What stands when a command has ended: settling brings it about, and what is quiet keeps it. -/
structure KeptStrongly (P W : State → Prop) : Prop extends KeptWeakly W where
  weak : ∀ s, P s → W s
  settled : ∀ s, W s → P s.settle
  quiet : ∀ s t, P s → W t → Quiet s t → P t
  grantedStrongly : ∀ s, P s → P s.grantOne

/-- A property that no operation breaks. -/
theorem KeptWeakly.perform {W : State → Prop} (k : KeptWeakly W) (q : LaneId) (l : List LaneEffect) (s : State)
    (h : W s) : W (s.perform q l) := by
  refine List.foldl_keeps (fun s e h => ?_) l s h
  cases e with
  | produce t b => exact k.produced s q t b h
  | handOn x => exact k.checkered s q _ h
  | emptyRecent => exact k.checkered s q _ h

theorem KeptWeakly.inOrder {W : State → Prop} (k : KeptWeakly W) {α : Type} (s : State) (l : List α) (h : W s) :
    W (s.inOrder l).2 := by
  unfold State.inOrder
  split
  · exact h
  · exact k.freed s _ h

/-- Settling is a run of changes taken, each by an enabled monitor. -/
theorem KeptWeakly.settleFor {W : State → Prop} (k : KeptWeakly W) : ∀ (n : Nat) (due : List MonitorId) (s : State),
    (∀ i ∈ due, (s.monitor i).settings.enabled = true) → W s → W (State.settleFor n due s)
  | 0, _, _, _, h => h
  | n + 1, due, s, hd, h => by
    unfold State.settleFor
    simp only
    split
    · exact h
    · rename_i i rest order
      have still : ∀ j, j = i ∨ j ∈ rest → (s.monitor j).settings.enabled = true := fun j hj =>
        hd j ((State.mem_inOrder s due j).1 (by rw [order]; exact List.mem_cons.2 hj))
      have here : ((s.inOrder due).2.monitor i).settings.enabled = true := by
        rw [State.inOrder_monitor]
        exact still i (Or.inl rfl)
      have settings : ∀ j, (((s.inOrder due).2.takeChange i).monitor j).settings = (s.monitor j).settings := fun j =>
        ((Grown.takeChange _ i here).settings j).trans (by rw [State.inOrder_monitor])
      refine k.settleFor n _ _ (fun j hj => ?_) (k.tookChange _ i here (k.inOrder s due h))
      rw [settings]
      rcases List.mem_append.1 hj with hj | hj
      · exact still j (Or.inr hj)
      · exact ((s.mem_rematched _ j).1 hj).1

theorem KeptWeakly.settle {W : State → Prop} (k : KeptWeakly W) (s : State) (h : W s) : W s.settle :=
  k.settleFor 16 s.stale s (fun i hi => ((s.mem_stale i).1 hi).1) h

/-- A property that no operation breaks stands when a command has ended. -/
theorem KeptWeakly.strongly {W : State → Prop} (k : KeptWeakly W) : KeptStrongly W W where
  toKeptWeakly := k
  weak := fun _ h => h
  settled := k.settle
  quiet := fun _ _ _ h _ => h
  grantedStrongly := k.granted

/-! ## What single updates leave -/

theorem Keyboard.writeEntry_keylock (x : Keyboard) (p : KeyPos) (e : KeyEntry) :
    (x.writeEntry p e).keylock = x.keylock := by
  unfold Keyboard.writeEntry
  simp only
  repeat' split
  all_goals rfl

theorem Keyboard.writeEntries_keylock : ∀ (l : List KeyEntry) (n : Nat) (x : Keyboard),
    (Keyboard.writeEntries n l x).keylock = x.keylock
  | [], _, _ => rfl
  | e :: l, n, x => by
    unfold Keyboard.writeEntries
    rw [Keyboard.writeEntries_keylock l]
    split
    · exact x.writeEntry_keylock _ e
    · rfl

/-- New settings leave what every queue holds (R24). -/
theorem EventStore.occ_withSettings (st : EventStore) (a : AdmissionSettings) (q : LaneId) :
    (st.withSettings a).occ q = st.occ q := by
  unfold EventStore.occ
  rw [EventStore.get_withSettings]
  rfl

/-- What a drawer passes that no test of R137 refuses. -/
theorem State.openRefusal_eq_none {s : State} {q : LaneId} {r : Byte} (h : s.openRefusal q r = none) :
    (s.drawers.get q).state = .closed ∧ (s.interlocks.conditions.get q).lockedOut = false := by
  refine ⟨State.openRefusal_none s q r h, ?_⟩
  by_contra locked
  unfold State.openRefusal at h
  repeat' split at h
  all_goals simp_all

@[simp] theorem Meter.takeTokens_pacing (m : Meter) (g : Grade) : (m.takeTokens g).pacing = m.pacing := by
  cases g <;> simp only [Meter.takeTokens]

@[simp] theorem Meter.graded_pacing (m : Meter) (t : Time) : (m.graded t).pacing = m.pacing :=
  (m.refill t).takeTokens_pacing _

theorem Meter.graded_holds (m : Meter) (t : Time) : (m.graded t).holds = m.holds := by
  unfold Meter.holds
  rw [Meter.graded_pacing]

theorem Drawer.sampleSense_state (d : Drawer) (now : Time) (raw : Bool) :
    (d.sampleSense now raw).1.state = d.state := rfl

theorem Drawer.sampleSense_fault (d : Drawer) (now : Time) (raw : Bool) :
    (d.sampleSense now raw).1.fault = d.fault := rfl

theorem Drawer.isOpen_of_pulseDue {d : Drawer} {now e : Time} (h : d.pulseDue now = some e) : d.isOpen = false := by
  unfold Drawer.pulseDue at h
  unfold Drawer.isOpen
  split at h
  · rename_i driving
    rw [driving]
  · exact nomatch h

theorem Drawer.isQueued_of_queueDue {d : Drawer} {now e : Time} (h : d.queueDue now = some e) : d.isQueued = true := by
  unfold Drawer.queueDue at h
  unfold Drawer.isQueued
  split at h
  · rfl
  · exact nomatch h

/-- A window goes on into the next one in the same alignment state (R92). -/
theorem ScannerPort.windowBoundary_alignment (x : ScannerPort) (now : Time) :
    (x.windowBoundary now).alignment = x.alignment := by
  unfold ScannerPort.windowBoundary
  split
  · split <;> rfl
  · rfl

section
variable {P W : State → Prop} (k : KeptStrongly P W)
include k

/-! ## Operations that leave the conditions alone -/

theorem KeptStrongly.link (s : State) (l : Link) (h : P s) : P { s with link := l } :=
  k.quiet s _ h (k.linked s l (k.weak s h)) (Quiet.of_eq rfl rfl rfl (fun _ => rfl) rfl rfl)

theorem KeptStrongly.table (s : State) (x : ClassTable) (h : P s) : P { s with table := x } :=
  k.quiet s _ h (k.tabled s x (k.weak s h)) (Quiet.of_eq rfl rfl rfl (fun _ => rfl) rfl rfl)

theorem KeptStrongly.free (s : State) (n : Nat) (h : P s) : P { s with freeIndex := n } :=
  k.quiet s _ h (k.freed s n (k.weak s h)) (Quiet.of_eq rfl rfl rfl (fun _ => rfl) rfl rfl)

theorem KeptStrongly.store (s : State) (st : EventStore) (ho : ∀ q, st.occ q = s.store.occ q) (h : P s) :
    P { s with store := st } :=
  k.quiet s _ h (k.stored s st (k.weak s h)) (Quiet.of_eq rfl rfl rfl ho rfl rfl)

theorem KeptStrongly.signal (s : State) (q : LaneId) (o : SignalOut) (f : SignalOutput → SignalOutput) (h : P s) :
    P (s.updateSignal q o f) :=
  k.quiet s _ h (k.signalled s q o f (k.weak s h)) (Quiet.of_eq rfl rfl rfl (fun _ => rfl) rfl rfl)

theorem KeptStrongly.inhibit (s : State) (q : LaneId) (p : PortId) (l : Level) (h : P s) : P (s.setInhibit q p l) :=
  k.quiet s _ h (k.inhibited s q p l (k.weak s h)) (Quiet.of_eq rfl rfl rfl (fun _ => rfl) rfl rfl)

theorem KeptStrongly.checker (s : State) (q : LaneId) (c : Checker) (h : P s) : P (s.withChecker q c) :=
  k.quiet s _ h (k.checkered s q c (k.weak s h)) (Quiet.of_eq rfl rfl rfl (fun _ => rfl) rfl rfl)

theorem KeptStrongly.mode (s : State) (q : LaneId) (m : LaneMode) (hm : m.current = (s.modes.get q).current)
    (h : P s) : P { s with modes := s.modes.set q m } :=
  k.quiet s _ h (k.moded s q m hm (k.weak s h)) (Quiet.of_eq rfl rfl rfl (fun _ => rfl) rfl rfl)

theorem KeptStrongly.key (s : State) (q : LaneId) {x : Keyboard}
    (hx : x.keylock.position = (s.keyboards.get q).keylock.position) (h : P s) : P (s.withKeyboard q x) :=
  k.quiet s _ h (k.keyed s q x (k.weak s h)) (Quiet.keyboard s q hx)

theorem KeptStrongly.port (s : State) (q : LaneId) (p : PortId) {x : ScannerPort}
    (hx : x.alignment = (s.port q p).alignment) (h : P s) : P (s.withPort q p x) :=
  k.quiet s _ h (k.ported s q p x (k.weak s h)) (Quiet.port s q p hx)

theorem KeptStrongly.drawer (s : State) (q : LaneId) {d : Drawer} (hd : d.state = (s.drawers.get q).state)
    (hf : d.fault = (s.drawers.get q).fault) (h : P s) : P (s.withDrawer q d) := by
  have isOpen : d.isOpen = (s.drawers.get q).isOpen := by
    unfold Drawer.isOpen
    rw [hd]
  exact k.quiet s _ h (k.kept s q d hd (k.weak s h)) (Quiet.drawer s s.arbiter q isOpen hf)

theorem KeptStrongly.push (s : State) (m : Message) (h : P s) : P (s.push m) := k.link s _ h

theorem KeptStrongly.completeWait (s : State) (q : LaneId) (w : Wait) (st : Status) (n : Half) (c : Byte) (h : P s) :
    P (s.completeWait q w st n c) :=
  k.push _ _ (k.store s _ (fun r => EventStore.occ_setWait s.store q r none) h)

theorem KeptStrongly.cancelWait (s : State) (q : LaneId) (c : Byte) (h : P s) : P (s.cancelWait q c) := by
  unfold State.cancelWait
  split
  · exact k.completeWait s q _ _ _ _ h
  · exact h

theorem KeptStrongly.grantAll (s : State) (h : P s) : P s.grantAll :=
  k.grantedStrongly _ (k.grantedStrongly s h)

/-! ## Operations that end in a settling -/

theorem KeptStrongly.keyboardDoes (s : State) (q : LaneId) (f : Keyboard → Keyboard × List LaneEffect) (h : P s) :
    P (s.keyboardDoes q f).settle :=
  k.settled _ (k.perform q _ _ (k.keyed s q _ (k.weak s h)))

theorem KeptStrongly.portDoes (s : State) (q : LaneId) (p : PortId) (f : ScannerPort → ScannerPort × List LaneEffect)
    (h : P s) : P (s.portDoes q p f).settle :=
  k.settled _ (k.perform q _ _ (k.ported s q p _ (k.weak s h)))

theorem KeptStrongly.abandonOpen (s : State) (q : LaneId) (t : Time) (r : AbandonReason)
    (hq : (s.drawers.get q).isQueued = true) (h : P s) : P (s.abandonOpen q t r).settle :=
  k.settled _ (k.perform q _ _ (k.abandoned s q t r hq (k.weak s h)))

theorem KeptStrongly.switchEnable (q : LaneId) (s : State) (x : Enable × Bool) (h : P s) :
    P (State.switchEnable q s x) :=
  k.settled _ (k.enabled s q x (k.weak s h))

theorem KeptStrongly.inOrder {α : Type} (s : State) (l : List α) (h : P s) : P (s.inOrder l).2 := by
  unfold State.inOrder
  split
  · exact h
  · exact k.free s _ h

theorem KeptStrongly.setCurrent (s : State) (q : LaneId) (e : EnableSet) (h : P s) : P (s.setCurrent q e) :=
  List.foldl_keeps (fun s x h => k.switchEnable q s x h) _ _ (k.inOrder _ _ h)

theorem KeptStrongly.leaveAttendant (s : State) (q : LaneId) (r : LeaveReason) (h : P s) :
    P (s.leaveAttendant q r) :=
  k.setCurrent _ q _ (k.settled _ (k.produced _ _ _ _ (k.moded s q _ rfl (k.weak s h))))

theorem KeptStrongly.enterAttendant (s : State) (q : LaneId) (h : P s) : P (s.enterAttendant q) :=
  k.setCurrent _ q _ (k.settled _ (k.produced _ _ _ _ (k.moded s q _ rfl (k.weak s h))))

/-! ## Requests -/

theorem KeptStrongly.takeWith (s : State) (kind tag : Byte) (b : List Byte)
    {rule : Byte → List Byte → State → State × Answer} (hr : RuleKeeps P rule) (h : P s) :
    P (s.takeWith kind tag b rule) := by
  have answer : ∀ r : State × Answer, P r.1 → P (State.answer tag kind r) := by
    intro r hr
    unfold State.answer
    split
    · exact k.push _ _ hr
    · exact hr
  unfold State.takeWith
  split
  · exact answer _ h
  · exact answer _ (hr tag b s h)

theorem KeptStrongly.resetPart : RuleKeeps P resetPartRule := by
  intro tag b s h
  unfold resetPartRule
  split
  · exact h
  · exact k.link s _ h

theorem KeptStrongly.resetLane : RuleKeeps P resetLaneRule := by
  refine laneRule_keeps fun q b s h => ?_
  have queue : P ((s.resetLaneQueue q).resetLanePatterns q) := by
    refine k.settled _ (k.signalled _ _ _ _ (k.signalled _ _ _ _ ?_))
    have flushed : W (s.withQueue q (s.store.queues.get q).flush) := k.stored s _ (k.weak s h)
    unfold State.resetLaneQueue State.cancelWait
    split
    · exact k.linked _ _ (k.stored _ _ flushed)
    · exact flushed
  have units : P (((s.resetLaneQueue q).resetLanePatterns q).resetLaneUnits q) :=
    k.key _ q rfl (k.checker _ q _ queue)
  have ports : P ((((s.resetLaneQueue q).resetLanePatterns q).resetLaneUnits q).resetLanePorts q) :=
    List.foldl_keeps (fun s p h => k.portDoes s q p _ h) _ _ (k.inOrder _ _ units)
  have drawer : P (((((s.resetLaneQueue q).resetLanePatterns q).resetLaneUnits q).resetLanePorts q).resetLaneDrawer q) := by
    unfold State.resetLaneDrawer
    split
    · exact k.abandonOpen _ _ _ _ ‹_› ports
    · exact ports
  show P (State.resetLaneMode _ q)
  unfold State.resetLaneMode
  split
  · exact k.leaveAttendant _ _ _ drawer
  · exact drawer

theorem KeptStrongly.setLaneEnables : RuleKeeps P setLaneEnablesRule := by
  refine laneRule_keeps fun q b s h => ?_
  split
  · show P (s.writeEnables q _ _).1
    unfold State.writeEnables
    simp only
    split
    · exact k.setCurrent s q _ h
    · exact k.mode s q _ rfl h
    · exact k.mode s q _ rfl h
    · exact k.setCurrent _ q _ (k.mode s q _ rfl h)
  · exact h

theorem KeptStrongly.enterAttendantTaken : RuleKeeps P enterAttendantRule := by
  refine laneRule_keeps fun q b s h => ?_
  split
  · exact h
  · exact k.enterAttendant s q h

theorem KeptStrongly.leaveAttendantTaken : RuleKeeps P leaveAttendantRule := by
  refine laneRule_keeps fun q b s h => ?_
  split
  · exact k.leaveAttendant s q _ h
  · exact h

theorem KeptStrongly.setKeyboard : RuleKeeps P setKeyboardRule := by
  refine laneRule_keeps fun q b s h => ?_
  split
  · exact k.keyboardDoes s q _ h
  · exact h

theorem KeptStrongly.setKeys : RuleKeeps P setKeysRule := by
  intro tag b s h
  unfold setKeysRule
  split
  · exact h
  · split
    · exact h
    · split
      · exact h
      · split
        · exact h
        · exact k.key s _ (by rw [Keyboard.writeEntries_keylock]) h

theorem KeptStrongly.setScannerLine : RuleKeeps P setScannerLineRule := by
  refine portRule_keeps fun q p b s h => ?_
  split
  · exact h
  · simp only
    split
    · exact h
    · exact k.portDoes s q p _ h

theorem KeptStrongly.setScannerIds : RuleKeeps P setScannerIdsRule := by
  refine portRule_keeps fun q p b s h => ?_
  split
  · exact h
  · exact k.port s q p rfl h

theorem KeptStrongly.setScannerChecks : RuleKeeps P setScannerChecksRule := by
  refine portRule_keeps fun q p b s h => ?_
  split
  · exact h
  · exact k.checker s q _ h

theorem KeptStrongly.setRepeat : RuleKeeps P setRepeatRule :=
  laneRule_keeps fun q _ s h => k.checker s q _ h

theorem KeptStrongly.setMeter : RuleKeeps P setMeterRule := by
  refine portRule_keeps fun q p b s h => ?_
  split
  · refine k.settled _ ?_
    split
    · exact k.produced _ _ _ _ (k.held s q p _ (k.weak s h))
    · exact k.held s q p _ (k.weak s h)
  · exact h

theorem KeptStrongly.resyncScanner : RuleKeeps P resyncScannerRule := by
  refine portRule_keeps fun q p b s h => ?_
  split
  · exact k.portDoes s q p _ h
  · exact h

theorem KeptStrongly.writeRule : RuleKeeps P writeRuleRule := by
  intro tag b s h
  unfold writeRuleRule
  split
  · exact h
  · split
    · exact h
    · split
      · exact h
      · split
        · exact h
        · exact k.table s _ h

theorem KeptStrongly.clearRule : RuleKeeps P clearRuleRule := by
  intro tag b s h
  unfold clearRuleRule
  split
  · exact h
  · split
    · exact h
    · exact k.table s _ h

theorem KeptStrongly.setProfile : RuleKeeps P setProfileRule := by
  intro tag b s h
  unfold setProfileRule
  split
  · exact h
  · split
    · exact h
    · split
      · exact h
      · exact k.table s _ h

theorem KeptStrongly.setAdmission : RuleKeeps P setAdmissionRule := by
  intro tag b s h
  unfold setAdmissionRule
  split
  · exact h
  · simp only
    split
    · exact k.store s _ (fun q => EventStore.occ_withSettings s.store _ q) h
    · exact h

theorem KeptStrongly.fetch : RuleKeeps P fetchRule :=
  laneRule_keeps fun _ _ s h => k.settled _ (k.stored s _ (k.weak s h))

theorem KeptStrongly.flush : RuleKeeps P flushRule :=
  laneRule_keeps fun _ _ s h => k.settled _ (k.stored s _ (k.weak s h))

theorem KeptStrongly.await : RuleKeeps P awaitRule := by
  intro tag b s h
  unfold awaitRule
  split
  · exact h
  · split
    · exact h
    · simp only
      split
      · exact h
      · split
        · exact h
        · split
          · exact h
          · exact k.store s _ (fun r => EventStore.occ_setWait s.store _ r _) h

theorem KeptStrongly.cancelAwait : RuleKeeps P cancelAwaitRule :=
  laneRule_keeps fun q _ s h => k.cancelWait s q _ h

theorem KeptStrongly.setDrawer : RuleKeeps P setDrawerRule :=
  laneRule_keeps fun q _ s h => k.settled _ (k.kept s q _ rfl (k.weak s h))

theorem KeptStrongly.acceptOpen (s : State) (q : LaneId) (hc : (s.drawers.get q).state = .closed)
    (hl : (s.interlocks.conditions.get q).lockedOut = false) (h : P s) : P (s.acceptOpen q) := by
  refine k.grantAll _ (k.quiet s _ h (k.enqueued s q hc hl (k.weak s h)) (Quiet.drawer s _ q ?_ rfl))
  unfold Drawer.isOpen
  rw [hc]
  rfl

theorem KeptStrongly.openDrawer : RuleKeeps P openDrawerRule := by
  intro tag b s h
  unfold openDrawerRule
  split
  · exact h
  · split
    · exact h
    · split
      · exact h
      · rename_i passed
        obtain ⟨closed, free⟩ := State.openRefusal_eq_none passed
        exact k.acceptOpen s _ closed free h

theorem KeptStrongly.setInterlock : RuleKeeps P setInterlockRule := by
  intro tag b s h
  unfold setInterlockRule
  split
  · exact h
  · split
    · exact h
    · split
      · exact h
      · split
        · exact h
        · exact k.settled _ (k.rewrote s _ _ (k.weak s h))

theorem KeptStrongly.releaseInterlock : RuleKeeps P releaseInterlockRule := by
  intro tag b s h
  unfold releaseInterlockRule
  split
  · exact h
  · split
    · exact h
    · rename_i i _
      simp only
      split
      · exact h
      · rename_i active
        split
        · exact h
        · rename_i unmatched
          split
          · exact h
          · exact k.settled _ (k.letGo s i (not_not.1 active) (Bool.eq_false_iff.2 unmatched) (k.weak s h))

theorem KeptStrongly.setOutput : RuleKeeps P setOutputRule := by
  refine laneRule_keeps fun q b s h => ?_
  split
  · exact h
  · split
    · exact h
    · exact k.signal s q _ (fun x => { x.stop with host := _ }) h
  · split
    · exact h
    · exact k.inhibit s q _ _ h

theorem KeptStrongly.setPattern : RuleKeeps P setPatternRule := by
  intro tag b s h
  unfold setPatternRule
  split
  · exact h
  · split
    · exact h
    · split
      · exact h
      · exact k.quiet s _ h (k.patterned s _ (k.weak s h)) (Quiet.of_eq rfl rfl rfl (fun _ => rfl) rfl rfl)

/-- Clearing counters changes nothing but counters (R196). -/
theorem KeptStrongly.clearCounters (s : State) (x : CounterScope) (h : P s) : P (s.clearCounters x) := by
  cases x with
  | link => exact k.link s _ h
  | queue q => exact k.store s _ (fun r => by rw [EventStore.occ_withQueue]; split <;> simp_all [EventStore.occ]) h
  | keyboard q => exact k.key s q rfl h
  | port q p => exact k.port s q p rfl h
  | drawer q => exact k.drawer s q rfl rfl h
  | flow => exact k.table s _ h

/-- Every request's rule keeps P. -/
theorem KeptStrongly.requestRule (kind : Byte) : RuleKeeps P ((requestRule kind).getD unknownKindRule) := by
  unfold Machine.requestRule
  split
  · exact identify_keeps
  · exact readTime_keeps
  · exact k.resetPart
  · exact k.resetLane
  · exact k.setLaneEnables
  · exact readLaneStatus_keeps
  · exact k.setKeyboard
  · exact k.setKeys
  · exact k.setScannerLine
  · exact k.setScannerIds
  · exact k.setScannerChecks
  · exact k.setRepeat
  · exact k.setMeter
  · exact k.resyncScanner
  · exact k.writeRule
  · exact readRule_keeps
  · exact k.clearRule
  · exact k.setProfile
  · exact k.setAdmission
  · exact k.fetch
  · exact k.flush
  · exact k.await
  · exact k.cancelAwait
  · exact k.setDrawer
  · exact k.openDrawer
  · exact k.setInterlock
  · exact k.releaseInterlock
  · exact readInterlocks_keeps
  · exact k.setOutput
  · exact k.setPattern
  · exact k.enterAttendantTaken
  · exact k.leaveAttendantTaken
  · exact readCounters_keeps
  · exact clearCounters_keeps k.clearCounters
  · exact fun _ _ s h => k.link s _ h

/-! ## What happens to the part -/

theorem KeptStrongly.toHunting (s : State) (f : LinkCounters → LinkCounters) (h : P s) : P (s.toHunting f) :=
  k.link s _ h

theorem KeptStrongly.huntByte (s : State) (v : Byte) (h : P s) : P (s.huntByte v) := by
  unfold State.huntByte
  split
  · exact k.link s _ h
  · exact h

theorem KeptStrongly.offerFrame (s : State) (f : RequestFrame) (h : P s) : P (s.offerFrame f) := by
  unfold State.offerFrame
  split
  · exact k.link s _ h
  · simp only
    split
    · exact k.push _ _ (k.link s _ h)
    · exact k.link s _ h

theorem KeptStrongly.frameByte (s : State) (l : List Byte) (v : Byte) (h : P s) : P (s.frameByte l v) := by
  unfold State.frameByte
  simp only
  split
  · exact k.toHunting s _ h
  · split
    · exact k.link s _ h
    · split
      · exact k.offerFrame _ _ (k.toHunting s _ h)
      · exact k.toHunting s _ h

theorem KeptStrongly.checkSymbol (s : State) (q : LaneId) (x : Symbol) (h : W s) : W (s.checkSymbol q x) := by
  unfold State.checkSymbol
  simp only
  split
  · exact k.perform q _ _ (k.ported s q _ _ h)
  · split
    · exact k.ported s q _ _ h
    · split
      · exact k.ported _ q _ _ (k.checkered s q _ h)
      · have remembered := k.checkered s q ((s.checkers.get q).remember s.time
          (symbologyOf (s.port q x.port).idMap x.frame.id) x.frame.data) h
        have graded := k.metered _ q x.port _ (Meter.graded_holds _ s.time) (k.ported _ q x.port
          { s.port q x.port with
            counters := (s.port q x.port).counters.addGrade ((s.meter q x.port).gradeAt s.time) } remembered)
        unfold State.meterSymbol
        simp only
        split
        · exact k.produced _ _ _ _ (k.held _ q x.port _ (k.produced _ _ _ _ graded))
        · exact k.held _ q x.port _ (k.produced _ _ _ _ graded)

theorem KeptStrongly.sampleSense (s : State) (q : LaneId) (raw : Bool) (h : P s) : P (s.sampleSense q raw) := by
  have sampled : W (s.withDrawer q ((s.drawers.get q).sampleSense s.time raw).1) := k.kept s q _ rfl (k.weak s h)
  unfold State.sampleSense
  simp only
  split
  · refine k.settled _ ?_
    split
    · exact k.granted _ (k.granted _ (k.perform q _ _ (k.openedDrawer _ q _ sampled)))
    · refine k.perform q _ _ ?_
      exact k.closedDrawer _ q _ rfl sampled
  · exact k.drawer s q (Drawer.sampleSense_state _ _ _) (Drawer.sampleSense_fault _ _ _) h

theorem KeptStrongly.pulseEnd (s : State) (q : LaneId) (e : Time) (hd : (s.drawers.get q).pulseDue s.time = some e)
    (h : P s) :
    P ({ s with arbiter := s.arbiter.release q }.withDrawer q ((s.drawers.get q).pulseEnded e)).grantAll :=
  k.grantAll _ (k.quiet s _ h (k.pulsed s q e hd (k.weak s h))
    (Quiet.drawer s _ q (Drawer.isOpen_of_pulseDue hd).symm rfl))

/-! ## Every command -/

/-- Every command but a part reset keeps P; a part reset does where the state it makes has P. -/
theorem exec_keeps_strongly (c : Instr) (s : State)
    (hr : ((∃ x y, c = .partReset x y) ∨ ∃ y, c = .resetPartDrained y) → ∀ cause straps line,
      P { (s.partReset cause straps) with link := { (s.partReset cause straps).link with hostLine := line } })
    (h : P s) : ∃ t, exec c s = .next t ∧ P t := by
  cases c
  case identify tag b => exact ⟨_, rfl, k.takeWith s _ _ _ identify_keeps h⟩
  case readTime tag b => exact ⟨_, rfl, k.takeWith s _ _ _ readTime_keeps h⟩
  case resetPart tag b => exact ⟨_, rfl, k.takeWith s _ _ _ k.resetPart h⟩
  case resetLane tag b => exact ⟨_, rfl, k.takeWith s _ _ _ k.resetLane h⟩
  case setLaneEnables tag b => exact ⟨_, rfl, k.takeWith s _ _ _ k.setLaneEnables h⟩
  case readLaneStatus tag b => exact ⟨_, rfl, k.takeWith s _ _ _ readLaneStatus_keeps h⟩
  case setKeyboard tag b => exact ⟨_, rfl, k.takeWith s _ _ _ k.setKeyboard h⟩
  case setKeys tag b => exact ⟨_, rfl, k.takeWith s _ _ _ k.setKeys h⟩
  case setScannerLine tag b => exact ⟨_, rfl, k.takeWith s _ _ _ k.setScannerLine h⟩
  case setScannerIds tag b => exact ⟨_, rfl, k.takeWith s _ _ _ k.setScannerIds h⟩
  case setScannerChecks tag b => exact ⟨_, rfl, k.takeWith s _ _ _ k.setScannerChecks h⟩
  case setRepeat tag b => exact ⟨_, rfl, k.takeWith s _ _ _ k.setRepeat h⟩
  case setMeter tag b => exact ⟨_, rfl, k.takeWith s _ _ _ k.setMeter h⟩
  case resyncScanner tag b => exact ⟨_, rfl, k.takeWith s _ _ _ k.resyncScanner h⟩
  case writeRule tag b => exact ⟨_, rfl, k.takeWith s _ _ _ k.writeRule h⟩
  case readRule tag b => exact ⟨_, rfl, k.takeWith s _ _ _ readRule_keeps h⟩
  case clearRule tag b => exact ⟨_, rfl, k.takeWith s _ _ _ k.clearRule h⟩
  case setProfile tag b => exact ⟨_, rfl, k.takeWith s _ _ _ k.setProfile h⟩
  case setAdmission tag b => exact ⟨_, rfl, k.takeWith s _ _ _ k.setAdmission h⟩
  case fetch tag b => exact ⟨_, rfl, k.takeWith s _ _ _ k.fetch h⟩
  case flush tag b => exact ⟨_, rfl, k.takeWith s _ _ _ k.flush h⟩
  case await tag b => exact ⟨_, rfl, k.takeWith s _ _ _ k.await h⟩
  case cancelAwait tag b => exact ⟨_, rfl, k.takeWith s _ _ _ k.cancelAwait h⟩
  case setDrawer tag b => exact ⟨_, rfl, k.takeWith s _ _ _ k.setDrawer h⟩
  case openDrawer tag b => exact ⟨_, rfl, k.takeWith s _ _ _ k.openDrawer h⟩
  case setInterlock tag b => exact ⟨_, rfl, k.takeWith s _ _ _ k.setInterlock h⟩
  case releaseInterlock tag b => exact ⟨_, rfl, k.takeWith s _ _ _ k.releaseInterlock h⟩
  case readInterlocks tag b => exact ⟨_, rfl, k.takeWith s _ _ _ readInterlocks_keeps h⟩
  case setOutput tag b => exact ⟨_, rfl, k.takeWith s _ _ _ k.setOutput h⟩
  case setPattern tag b => exact ⟨_, rfl, k.takeWith s _ _ _ k.setPattern h⟩
  case enterAttendant tag b => exact ⟨_, rfl, k.takeWith s _ _ _ k.enterAttendantTaken h⟩
  case leaveAttendant tag b => exact ⟨_, rfl, k.takeWith s _ _ _ k.leaveAttendantTaken h⟩
  case readCounters tag b => exact ⟨_, rfl, k.takeWith s _ _ _ readCounters_keeps h⟩
  case clearCounters tag b => exact ⟨_, rfl, k.takeWith s _ _ _ (clearCounters_keeps k.clearCounters) h⟩
  case hostByteReceived v =>
    refine ⟨_, rfl, ?_⟩
    split
    · exact h
    · exact k.huntByte s v h
    · split
      · exact k.huntByte _ v (k.toHunting s _ h)
      · exact k.frameByte s _ v h
  case linkGapExpiry =>
    refine ⟨_, rfl, ?_⟩
    split
    · split
      · exact k.toHunting s _ h
      · exact h
    · exact h
  case takeRequest =>
    refine ⟨_, rfl, ?_⟩
    split
    · exact h
    · split
      · exact k.takeWith _ _ _ _ (k.requestRule _) (k.link s _ h)
      · exact h
  case frameSent =>
    refine ⟨_, rfl, ?_⟩
    split
    · exact h
    · split
      · exact h
      · exact k.link s _ h
  case readyNotice =>
    refine ⟨_, rfl, ?_⟩
    split
    · exact k.link s _ h
    · exact h
  case partReset c x => exact ⟨_, rfl, hr (Or.inl ⟨_, _, rfl⟩) _ x _⟩
  case resetPartDrained x =>
    have reset := hr (Or.inr ⟨_, rfl⟩)
    refine ⟨_, rfl, ?_⟩
    split
    · exact reset _ x _
    · exact reset _ x _
    · exact h
  case awaitExpiry q =>
    refine ⟨_, rfl, ?_⟩
    split
    · split
      · exact k.completeWait s q _ _ _ _ h
      · exact h
    · exact h
  case keyChangeAccepted q raw =>
    refine ⟨_, rfl, ?_⟩
    split
    · exact k.keyboardDoes s q _ h
    · exact h
  case typematicRepeat q => exact ⟨_, rfl, k.keyboardDoes s q _ h⟩
  case firstSampleAbsorb q raw =>
    refine ⟨_, rfl, ?_⟩
    split
    · exact k.key s q rfl h
    · exact h
  case keylockPatternAccepted q i => exact ⟨_, rfl, k.keyboardDoes s q _ h⟩
  case keylockFault q => exact ⟨_, rfl, k.keyboardDoes s q _ h⟩
  case scannerByte q p v a b => exact ⟨_, rfl, k.portDoes s q p _ h⟩
  case scannerBreak q p => exact ⟨_, rfl, k.portDoes s q p _ h⟩
  case scannerGapExpiry q p => exact ⟨_, rfl, k.portDoes s q p _ h⟩
  case errorWindowBoundary q p => exact ⟨_, rfl, k.port s q p (ScannerPort.windowBoundary_alignment _ _) h⟩
  case symbolTake q =>
    refine ⟨_, rfl, ?_⟩
    split
    · exact h
    · exact k.settled _ (k.checkSymbol _ q _ (k.checkered s q _ (k.weak s h)))
  case pacingRelease q p =>
    refine ⟨_, rfl, ?_⟩
    split
    · exact k.settled _ (k.produced _ _ _ _ (k.held s q p _ (k.weak s h)))
    · exact h
  case pulseEnd q =>
    refine ⟨_, rfl, ?_⟩
    split
    · exact k.pulseEnd s q _ ‹_› h
    · exact h
  case cooldownEnd q =>
    refine ⟨_, rfl, ?_⟩
    split
    · exact k.grantAll _ (k.drawer s q rfl rfl h)
    · exact h
  case drawerSenseOpen q => exact ⟨_, rfl, k.sampleSense s q true h⟩
  case drawerSenseClose q => exact ⟨_, rfl, k.sampleSense s q false h⟩
  case confirmExpiry q => exact ⟨_, rfl, k.settled _ (k.perform q _ _ (k.confirmed s q (k.weak s h)))⟩
  case queueExpiry q =>
    refine ⟨_, rfl, ?_⟩
    split
    · rename_i due
      exact k.abandonOpen s q _ _ (Drawer.isQueued_of_queueDue due) h
    · exact h
  case leftOpen q => exact ⟨_, rfl, k.settled _ (k.perform q _ _ (k.leftOpened s q (k.weak s h)))⟩
  case interlockQualifyExpiry i =>
    refine ⟨_, rfl, ?_⟩
    split
    · split
      · exact k.settled _ (k.qualified s i _ ‹_› (k.weak s h))
      · exact h
    · exact h
  case patternStepEnd q o => exact ⟨_, rfl, k.signal s q o _ h⟩
  case blinkBoundary q o => exact ⟨_, rfl, k.signal s q o _ h⟩

end

/-- Every step keeps P, where the passing of time, the taking of a command from the queue and a part reset do. -/
theorem step_keeps_strongly {P W : State → Prop} (k : KeptStrongly P W) (ht : ∀ s, P s → P s.tick)
    (hq : ∀ s l, P s → P { s with pending := l })
    (hr : ∀ (s : State) cause straps line,
      P { (s.partReset cause straps) with link := { (s.partReset cause straps).link with hostLine := line } })
    (s t : State) (h : P s) (hs : step s = .next t) : P t := by
  unfold step at hs
  split at hs
  · cases hs
    exact ht s h
  · rename_i c rest _
    obtain ⟨u, hu, hp⟩ := exec_keeps_strongly k c { s with pending := rest } (fun _ => hr _) (hq s _ h)
    cases hu.symm.trans hs
    exact hp

end Sys2Proof.Machine

/-!
PROOF. Every command completes, and keeps the queue and the part time (obligation O2): no operation of any block writes
them.
-/

namespace Sys2Proof.Machine

/-- The queue of commands and the part time are the given ones. -/
def State.Stands (l : List Instr) (now : Time) (s : State) : Prop := s.pending = l ∧ s.time = now

variable {l : List Instr} {now : Time}

theorem State.stands_keptByEvents : KeptByEvents (State.Stands l now) := by
  constructor
  all_goals intros; assumption

theorem State.stands_keptByBlocks : KeptByBlocks (State.Stands l now) := by
  constructor
  case toKeptByEvents => exact State.stands_keptByEvents
  all_goals intros; assumption

theorem State.Stands.monitorEvent {s : State} (h : s.Stands l now) (i : MonitorId) (t : Time) (b : EventBody) :
    (s.monitorEvent i t b).Stands l now :=
  State.produce_keeps State.stands_keptByEvents _ _ _ _ h

theorem State.Stands.refreshEffects {s : State} (h : s.Stands l now) : s.refreshEffects.Stands l now :=
  State.refreshEffects_keeps State.stands_keptByBlocks _ h

theorem State.Stands.turnMonitor {s : State} (h : s.Stands l now) (i : MonitorId) (t : Time)
    (r : Monitor × MonitorTurn) : (s.turnMonitor i t r).Stands l now :=
  State.turnMonitor_keeps State.stands_keptByBlocks _ _ _ _ h

theorem State.Stands.rewriteMonitor {s : State} (h : s.Stands l now) (i : MonitorId) (g : MonitorSettings) :
    (s.rewriteMonitor i g).Stands l now := by
  have ended : (s.endMonitor i g.enabled).Stands l now := by
    unfold State.endMonitor
    split
    · exact State.Stands.monitorEvent (s := s.withMonitor i _) h _ _ _
    · exact h
  refine State.Stands.refreshEffects ?_
  unfold State.beginMonitor
  simp only
  split
  · split
    · exact State.Stands.monitorEvent (s := ((s.endMonitor i g.enabled).withMonitor i _).withMonitor i _) ended _ _ _
    · exact ended
  · exact ended

theorem State.Stands.grantOne {s : State} (h : s.Stands l now) : s.grantOne.Stands l now := by
  unfold State.grantOne
  split <;> exact h

theorem State.Stands.handEnable {s : State} (h : s.Stands l now) (q : LaneId) (x : Enable × Bool) :
    (State.handEnable q s x).Stands l now := by
  unfold State.handEnable
  split
  · exact h
  · exact State.keyboardDoes_keeps State.stands_keptByBlocks _ _ _ h
  · exact h
  · exact State.resolveInhibit_keeps State.stands_keptByEvents _ _ _
      (State.portDoes_keeps State.stands_keptByBlocks _ _ _ _ h)
  · exact h.grantOne.grantOne
  · exact h

theorem State.stands_keptWeakly : KeptWeakly (State.Stands l now) := by
  constructor
  case produced => exact fun s q t b h => State.produce_keeps State.stands_keptByEvents s q t b h
  case tookChange => exact fun s i _ h => h.turnMonitor i _ _
  case qualified => exact fun s i t _ h => h.turnMonitor i _ _
  case letGo => exact fun s i _ _ h => h.turnMonitor i _ _
  case rewrote => exact fun s i g h => h.rewriteMonitor i g
  case enabled => exact fun s q x h => State.Stands.handEnable (s := s.withEnable q x.1 x.2) h q x
  case granted => exact fun s h => h.grantOne
  all_goals intros; assumption

theorem exec_partReset_time (cause : ResetPin) (straps : BitVec 2) (s : State) :
    ∃ t, exec (.partReset cause straps) s = .next t ∧ t.pending = s.pending ∧ t.time = 0 :=
  ⟨_, rfl, rfl, rfl⟩

theorem exec_resetPartDrained_time (straps : BitVec 2) (s : State) :
    ∃ t, exec (.resetPartDrained straps) s = .next t ∧ t.pending = s.pending ∧ (t.time = s.time ∨ t.time = 0) := by
  refine ⟨_, rfl, ?_⟩
  split
  · exact ⟨rfl, Or.inr rfl⟩
  · exact ⟨rfl, Or.inr rfl⟩
  · exact ⟨rfl, Or.inl rfl⟩

/-- On an empty queue a step is a tick (log 1). -/
theorem step_of_pending_nil {s : State} (h : s.pending = []) : step s = .next s.tick := by
  unfold step
  rw [h]

/-- Settles O2: a part reset is seen from its own definition, and every other command is made of operations that keep the
queue and the time. -/
theorem everyStepCompletes : Obligations.EveryStepCompletes := by
  refine ⟨fun c s => ?_, fun s empty => ?_⟩
  · by_cases hr : (∃ x y, c = .partReset x y) ∨ ∃ y, c = .resetPartDrained y
    · obtain ⟨x, y, rfl⟩ | ⟨y, rfl⟩ := hr
      · obtain ⟨t, ht, pending, time⟩ := exec_partReset_time x y s
        exact ⟨t, ht, pending, Or.inr time, fun other _ => absurd rfl (other x y)⟩
      · obtain ⟨t, ht, pending, time⟩ := exec_resetPartDrained_time y s
        exact ⟨t, ht, pending, time, fun _ other => absurd rfl (other y)⟩
    · obtain ⟨t, ht, pending, time⟩ := exec_keeps_strongly State.stands_keptWeakly.strongly c s
        (fun h => absurd h hr) (show s.Stands s.pending s.time from ⟨rfl, rfl⟩)
      exact ⟨t, ht, pending, Or.inl time, fun _ _ => time⟩
  · exact step_of_pending_nil empty

end Sys2Proof.Machine

/-!
PROOF. The drawers and the arbiter (obligation O58). That a drawer is DRIVING or QUEUED as the arbiter says and OPEN as
its switch says is kept by every single update; that no waiting request stands under a lockout is kept once the changes of
the effects have been handed on.
-/

namespace Sys2Proof.Machine

/-! ## The drawer states -/

section
variable {d : Drawer} {now : Time}

@[simp] theorem Drawer.enqueue_state (d : Drawer) (now : Time) :
    (d.enqueue now).state = .queued (after now d.settings.queueTimeout) := rfl

@[simp] theorem Drawer.drive_state (d : Drawer) (now : Time) :
    (d.drive now).state = .driving (after now d.settings.pulseWidth) := rfl

@[simp] theorem Drawer.pulseEnded_state (d : Drawer) (e : Time) :
    (d.pulseEnded e).state = .confirming (after e d.settings.confirmTimeout) := rfl

@[simp] theorem Drawer.abandon_state (d : Drawer) (t : Time) (r : AbandonReason) : (d.abandon t r).1.state = .closed :=
  rfl

/-- An accepted open leaves the drawer OPEN whatever it was (R143, R144). -/
theorem Drawer.senseOpened_isOpen (d : Drawer) (now : Time) : (d.senseOpened now).1.isOpen = true := by
  unfold Drawer.senseOpened
  split
  · rfl
  · rfl
  · rfl
  · rfl
  · rename_i opened
    simp only [Drawer.isOpen, opened]

theorem Drawer.senseOpened_senseOpen (d : Drawer) (now : Time) : (d.senseOpened now).1.senseOpen = d.senseOpen := by
  unfold Drawer.senseOpened
  split <;> rfl

/-- An accepted close closes an OPEN drawer and leaves another as it is (R147). -/
theorem Drawer.senseClosed_state (d : Drawer) (now : Time) :
    (d.senseClosed now).1.state = if d.isOpen then .closed else d.state := by
  unfold Drawer.senseClosed Drawer.isOpen
  split <;> simp_all

theorem Drawer.senseClosed_senseOpen (d : Drawer) (now : Time) : (d.senseClosed now).1.senseOpen = d.senseOpen := by
  unfold Drawer.senseClosed
  split <;> rfl

/-- The states an expiry of a drawer's own timers leaves (R145, R146): neither QUEUED nor DRIVING before or after. -/
theorem Drawer.confirmExpired_state (d : Drawer) (now : Time) :
    (d.confirmExpired now).1.state = d.state ∨
      ((∃ e, d.state = .confirming e) ∧ (d.confirmExpired now).1.state = .closed) := by
  unfold Drawer.confirmExpired
  split
  · rename_i confirming
    split
    · exact Or.inr ⟨⟨_, confirming⟩, rfl⟩
    · exact Or.inl rfl
  · exact Or.inl rfl

theorem Drawer.confirmExpired_senseOpen (d : Drawer) (now : Time) :
    (d.confirmExpired now).1.senseOpen = d.senseOpen := by
  unfold Drawer.confirmExpired
  split
  · split <;> rfl
  · rfl

theorem Drawer.leftOpenExpired_isOpen (d : Drawer) (now : Time) :
    ((d.leftOpenExpired now).1.isOpen = d.isOpen ∧ (d.leftOpenExpired now).1.isQueued = d.isQueued ∧
      (d.leftOpenExpired now).1.isDriving = d.isDriving) ∧ (d.leftOpenExpired now).1.senseOpen = d.senseOpen := by
  unfold Drawer.leftOpenExpired
  split
  · rename_i opened
    split
    · simp only [Drawer.isOpen, Drawer.isQueued, Drawer.isDriving, opened, and_self]
    · exact ⟨⟨rfl, rfl, rfl⟩, rfl⟩
  · exact ⟨⟨rfl, rfl, rfl⟩, rfl⟩

theorem Drawer.isQueued_iff (d : Drawer) : d.isQueued = true ↔ ∃ e, d.state = .queued e := by
  unfold Drawer.isQueued
  cases d.state <;> simp

theorem Drawer.isDriving_iff (d : Drawer) : d.isDriving = true ↔ ∃ e, d.state = .driving e := by
  unfold Drawer.isDriving
  cases d.state <;> simp

theorem Drawer.isOpen_iff (d : Drawer) : d.isOpen = true ↔ ∃ a b c, d.state = .opened a b c := by
  unfold Drawer.isOpen
  cases d.state <;> simp

theorem Drawer.isDriving_of_pulseDue {e : Time} (h : d.pulseDue now = some e) : d.isDriving = true := by
  unfold Drawer.pulseDue at h
  unfold Drawer.isDriving
  split at h
  · rfl
  · exact nomatch h

end

/-! ## The arbiter -/

section
variable {a : Arbiter} {q r : LaneId}

theorem Arbiter.mem_withdraw (a : Arbiter) (q r : LaneId) :
    r ∈ (a.withdraw q).waiting ↔ r ∈ a.waiting ∧ r ≠ q := by
  simp [Arbiter.withdraw]

theorem Arbiter.release_slot1 (a : Arbiter) (q r : LaneId) :
    (a.release q).slot1 = some r ↔ a.slot1 = some r ∧ r ≠ q := by
  unfold Arbiter.release
  simp only
  split
  · rename_i here
    rw [here]
    exact ⟨nofun, fun ⟨same, other⟩ => absurd (Option.some.inj same).symm other⟩
  · rename_i there
    exact ⟨fun slot => ⟨slot, fun same => there (same ▸ slot)⟩, And.left⟩

theorem Arbiter.release_slot2 (a : Arbiter) (q r : LaneId) :
    (a.release q).slot2 = some r ↔ a.slot2 = some r ∧ r ≠ q := by
  unfold Arbiter.release
  simp only
  split
  · rename_i here
    rw [here]
    exact ⟨nofun, fun ⟨same, other⟩ => absurd (Option.some.inj same).symm other⟩
  · rename_i there
    exact ⟨fun slot => ⟨slot, fun same => there (same ▸ slot)⟩, And.left⟩

theorem Arbiter.holds_release (a : Arbiter) (q r : LaneId) : (a.release q).holds r ↔ a.holds r ∧ r ≠ q := by
  unfold Arbiter.holds
  rw [Arbiter.release_slot1, Arbiter.release_slot2, or_and_right]

/-- What a grant does: the oldest eligible request leaves the list, and its lane holds the first free slot (R140). -/
theorem Arbiter.grant_eq_some {f : LaneId → Bool} {b : Arbiter} (h : a.grant f = some (q, b)) :
    q ∈ a.waiting ∧ f q = true ∧
      ((a.slot1 = none ∧ b = { a.withdraw q with slot1 := some q }) ∨
        (a.slot1 ≠ none ∧ a.slot2 = none ∧ b = { a.withdraw q with slot2 := some q })) := by
  unfold Arbiter.grant at h
  split at h
  · exact nomatch h
  · rename_i oldest first
    have granted : oldest = q := by
      split at h
      · exact (Prod.mk.inj (Option.some.inj h)).1
      · split at h
        · exact (Prod.mk.inj (Option.some.inj h)).1
        · exact nomatch h
    subst granted
    refine ⟨List.mem_of_find?_eq_some first, List.find?_some first, ?_⟩
    split at h
    · rename_i free
      exact Or.inl ⟨free, (Prod.mk.inj (Option.some.inj h)).2.symm⟩
    · rename_i taken
      split at h
      · rename_i free
        exact Or.inr ⟨taken, free, (Prod.mk.inj (Option.some.inj h)).2.symm⟩
      · exact nomatch h

end

/-! ## Drawers and arbiter agree (R139) -/

/-- A drawer agrees with what the arbiter says of its lane. -/
def Arbiter.Agrees (a : Arbiter) (q : LaneId) (d : Drawer) : Prop :=
  (d.isDriving = true ↔ a.holds q) ∧ (d.isQueued = true ↔ q ∈ a.waiting)

/-- The arbiter's own part: no lane holds both slots or waits twice. -/
def Arbiter.Proper (a : Arbiter) : Prop := (∀ q, a.slot1 = some q → a.slot2 ≠ some q) ∧ a.waiting.Nodup

theorem State.driveAgrees_iff (s : State) :
    s.DriveAgrees ↔ (∀ q, s.arbiter.Agrees q (s.drawers.get q)) ∧ s.arbiter.Proper :=
  ⟨fun ⟨driving, queued, slots, waiting⟩ => ⟨fun q => ⟨driving q, queued q⟩, slots, waiting⟩,
    fun ⟨agrees, slots, waiting⟩ => ⟨fun q => (agrees q).1, fun q => (agrees q).2, slots, waiting⟩⟩

/-- Lane q is changed in both, and the arbiter says of the other lanes what it said. -/
theorem State.DriveAgrees.update {s : State} (h : s.DriveAgrees) {a : Arbiter} {q : LaneId} {d : Drawer}
    (here : a.Agrees q d)
    (there : ∀ r, r ≠ q → (a.holds r ↔ s.arbiter.holds r) ∧ (r ∈ a.waiting ↔ r ∈ s.arbiter.waiting))
    (proper : a.Proper) : ({ s with arbiter := a }.withDrawer q d).DriveAgrees := by
  rw [State.driveAgrees_iff] at h ⊢
  refine ⟨fun r => ?_, proper⟩
  rw [State.withDrawer_drawers, Lanes.get_set]
  split
  · rename_i same
    rw [same]
    exact here
  · rename_i other
    obtain ⟨holds, waits⟩ := there r other
    exact ⟨(h.1 r).1.trans holds.symm, (h.1 r).2.trans waits.symm⟩

/-- A drawer that stays, or does not come to be, QUEUED or DRIVING. -/
theorem State.DriveAgrees.withDrawer {s : State} (h : s.DriveAgrees) (q : LaneId) {d : Drawer}
    (hq : d.isQueued = (s.drawers.get q).isQueued) (hd : d.isDriving = (s.drawers.get q).isDriving) :
    (s.withDrawer q d).DriveAgrees := by
  have agrees := (s.driveAgrees_iff.1 h).1 q
  refine State.DriveAgrees.update (a := s.arbiter) h ?_ (fun r _ => ⟨Iff.rfl, Iff.rfl⟩) (s.driveAgrees_iff.1 h).2
  unfold Arbiter.Agrees
  rw [hq, hd]
  exact agrees

theorem Drawer.kinds_of_state {d e : Drawer} (h : d.state = e.state) :
    d.isQueued = e.isQueued ∧ d.isDriving = e.isDriving ∧ d.isOpen = e.isOpen := by
  unfold Drawer.isQueued Drawer.isDriving Drawer.isOpen
  rw [h]
  exact ⟨rfl, rfl, rfl⟩

theorem Arbiter.Proper.withdraw {a : Arbiter} (h : a.Proper) (q : LaneId) : (a.withdraw q).Proper :=
  ⟨h.1, h.2.filter _⟩

theorem Arbiter.Proper.release {a : Arbiter} (h : a.Proper) (q : LaneId) : (a.release q).Proper := by
  refine ⟨fun r one two => ?_, h.2⟩
  rw [Arbiter.release_slot1] at one
  rw [Arbiter.release_slot2] at two
  exact h.1 r one.1 two.1

/-- The lane of a drawer that is not DRIVING holds no slot. -/
theorem State.DriveAgrees.not_holds {s : State} (h : s.DriveAgrees) {q : LaneId}
    (hd : (s.drawers.get q).isDriving = false) : ¬ s.arbiter.holds q := fun held => by
  rw [((s.driveAgrees_iff.1 h).1 q).1.2 held] at hd
  exact nomatch hd

theorem State.DriveAgrees.not_waiting {s : State} (h : s.DriveAgrees) {q : LaneId}
    (hd : (s.drawers.get q).isQueued = false) : q ∉ s.arbiter.waiting := fun waits => by
  rw [((s.driveAgrees_iff.1 h).1 q).2.2 waits] at hd
  exact nomatch hd

theorem Drawer.isDriving_of_isQueued {d : Drawer} (h : d.isQueued = true) : d.isDriving = false := by
  obtain ⟨e, he⟩ := d.isQueued_iff.1 h
  unfold Drawer.isDriving
  rw [he]

theorem Drawer.isOpen_of_isQueued {d : Drawer} (h : d.isQueued = true) : d.isOpen = false := by
  obtain ⟨e, he⟩ := d.isQueued_iff.1 h
  unfold Drawer.isOpen
  rw [he]

theorem State.DriveAgrees.abandoned {s : State} (h : s.DriveAgrees) (q : LaneId) (t : Time) (r : AbandonReason)
    (hq : (s.drawers.get q).isQueued = true) :
    ({ s with arbiter := s.arbiter.withdraw q }.withDrawer q ((s.drawers.get q).abandon t r).1).DriveAgrees := by
  have idle := h.not_holds (Drawer.isDriving_of_isQueued hq)
  refine h.update ⟨iff_of_false nofun idle, iff_of_false nofun ?_⟩ (fun r other => ⟨Iff.rfl, ?_⟩)
    ((s.driveAgrees_iff.1 h).2.withdraw q)
  · rw [Arbiter.mem_withdraw]
    exact fun left => left.2 rfl
  · rw [Arbiter.mem_withdraw]
    exact and_iff_left other

theorem State.DriveAgrees.enqueued {s : State} (h : s.DriveAgrees) (q : LaneId)
    (hc : (s.drawers.get q).state = .closed) :
    ({ s with arbiter := s.arbiter.join q }.withDrawer q ((s.drawers.get q).enqueue s.time)).DriveAgrees := by
  have idle : ¬ s.arbiter.holds q := h.not_holds (by unfold Drawer.isDriving; rw [hc])
  have absent : q ∉ s.arbiter.waiting := h.not_waiting (by unfold Drawer.isQueued; rw [hc])
  obtain ⟨slots, waiting⟩ := (s.driveAgrees_iff.1 h).2
  refine h.update ⟨iff_of_false nofun idle, iff_of_true rfl ?_⟩ (fun r other => ⟨Iff.rfl, ?_⟩) ⟨slots, ?_⟩
  · exact List.mem_append_right _ (List.mem_singleton_self q)
  · simp [Arbiter.join, other]
  · exact waiting.append (List.nodup_singleton q) (by simpa using absent)

theorem State.DriveAgrees.pulsed {s : State} (h : s.DriveAgrees) (q : LaneId) (e : Time)
    (hd : (s.drawers.get q).isDriving = true) :
    ({ s with arbiter := s.arbiter.release q }.withDrawer q ((s.drawers.get q).pulseEnded e)).DriveAgrees := by
  have unqueued : (s.drawers.get q).isQueued = false := by
    obtain ⟨e, he⟩ := Drawer.isDriving_iff _ |>.1 hd
    unfold Drawer.isQueued
    rw [he]
  refine h.update ⟨iff_of_false nofun ?_, iff_of_false nofun (h.not_waiting unqueued)⟩
    (fun r other => ⟨?_, Iff.rfl⟩) ((s.driveAgrees_iff.1 h).2.release q)
  · rw [Arbiter.holds_release]
    exact fun left => left.2 rfl
  · rw [Arbiter.holds_release]
    exact and_iff_left other

theorem State.DriveAgrees.opened {s : State} (h : s.DriveAgrees) (q : LaneId) (d : Drawer) :
    ({ s with arbiter := (s.arbiter.release q).withdraw q }.withDrawer q (d.senseOpened s.time).1).DriveAgrees := by
  obtain ⟨x, y, z, opened⟩ := Drawer.isOpen_iff _ |>.1 (d.senseOpened_isOpen s.time)
  have unlike : (d.senseOpened s.time).1.isDriving = false ∧ (d.senseOpened s.time).1.isQueued = false := by
    unfold Drawer.isDriving Drawer.isQueued
    rw [opened]
    exact ⟨rfl, rfl⟩
  refine h.update ⟨iff_of_false (by rw [unlike.1]; exact nofun) ?_, iff_of_false (by rw [unlike.2]; exact nofun) ?_⟩
    (fun r other => ⟨?_, ?_⟩) (((s.driveAgrees_iff.1 h).2.release q).withdraw q)
  · exact fun held => ((s.arbiter.holds_release q q).1 held).2 rfl
  · rw [Arbiter.mem_withdraw]
    exact fun left => left.2 rfl
  · exact (s.arbiter.holds_release q r).trans (and_iff_left other)
  · exact ((s.arbiter.release q).mem_withdraw q r).trans (and_iff_left other)

/-- The request granted is a waiting one, so its drawer was QUEUED and held no slot. -/
theorem State.DriveAgrees.grantOne {s : State} (h : s.DriveAgrees) : s.grantOne.DriveAgrees := by
  unfold State.grantOne
  split
  · rename_i q a hg
    obtain ⟨waits, -, slot⟩ := Arbiter.grant_eq_some hg
    have queued : (s.drawers.get q).isQueued = true := ((s.driveAgrees_iff.1 h).1 q).2.2 waits
    have idle := h.not_holds (Drawer.isDriving_of_isQueued queued)
    have proper := (s.driveAgrees_iff.1 h).2.withdraw q
    obtain ⟨free, rfl⟩ | ⟨-, free, rfl⟩ := slot
    · refine h.update ⟨iff_of_true rfl (Or.inl rfl), iff_of_false nofun ?_⟩ (fun r other => ⟨?_, ?_⟩) ⟨?_, proper.2⟩
      · exact fun left => ((s.arbiter.mem_withdraw q q).1 left).2 rfl
      · simp [Arbiter.holds, Arbiter.withdraw, free, other.symm]
      · exact (s.arbiter.mem_withdraw q r).trans (and_iff_left other)
      · rintro r ⟨rfl⟩ two
        exact idle (Or.inr two)
    · refine h.update ⟨iff_of_true rfl (Or.inr rfl), iff_of_false nofun ?_⟩ (fun r other => ⟨?_, ?_⟩) ⟨?_, proper.2⟩
      · exact fun left => ((s.arbiter.mem_withdraw q q).1 left).2 rfl
      · simp [Arbiter.holds, Arbiter.withdraw, free, other.symm]
      · exact (s.arbiter.mem_withdraw q r).trans (and_iff_left other)
      · rintro r one ⟨rfl⟩
        exact idle (Or.inl one)
  · exact h

/-! ## Drawers follow their switches (R135) -/

theorem State.DrawersFollowSense.update {s : State} (h : s.DrawersFollowSense) (a : Arbiter) (q : LaneId) {d : Drawer}
    (hd : d.isOpen = d.senseOpen) : ({ s with arbiter := a }.withDrawer q d).DrawersFollowSense := by
  intro r
  rw [State.withDrawer_drawers, Lanes.get_set]
  split
  · exact hd
  · exact h r

theorem State.DrawersFollowSense.withDrawer {s : State} (h : s.DrawersFollowSense) (q : LaneId) {d : Drawer}
    (ho : d.isOpen = (s.drawers.get q).isOpen) (hs : d.senseOpen = (s.drawers.get q).senseOpen) :
    (s.withDrawer q d).DrawersFollowSense :=
  h.update s.arbiter q (ho.trans ((h q).trans hs.symm))

/-- What a sample leaves of the debounced value (R136). -/
theorem Drawer.sampleSense_senseOpen (d : Drawer) (now : Time) (raw : Bool) :
    (d.sampleSense now raw).1.senseOpen = if (d.sampleSense now raw).2 then raw else d.senseOpen := rfl

theorem Drawer.senseOpen_of_accepted {d : Drawer} {now : Time} {raw : Bool} (h : (d.sampleSense now raw).2 = true) :
    d.senseOpen = !raw := by
  simp only [Drawer.sampleSense, Bool.and_eq_true, bne_iff_ne] at h
  have differs := h.1
  cases raw <;> cases hs : d.senseOpen <;> simp_all

/-- Drawers agree with the arbiter and with their switches. -/
def State.DrawersSound (s : State) : Prop := s.DriveAgrees ∧ s.DrawersFollowSense

/-- A drawer that keeps its state and its debounced value. -/
theorem State.DrawersSound.withDrawer {s : State} (h : s.DrawersSound) (q : LaneId) {d : Drawer}
    (hd : d.state = (s.drawers.get q).state) (hs : d.senseOpen = (s.drawers.get q).senseOpen) :
    (s.withDrawer q d).DrawersSound := by
  obtain ⟨queued, driving, isOpen⟩ := Drawer.kinds_of_state hd
  exact ⟨h.1.withDrawer q queued driving, h.2.withDrawer q isOpen hs⟩

theorem State.DrawersSound.grantOne {s : State} (h : s.DrawersSound) : s.grantOne.DrawersSound := by
  refine ⟨h.1.grantOne, ?_⟩
  unfold State.grantOne
  split
  · rename_i q a hg
    have queued : (s.drawers.get q).isQueued = true :=
      ((s.driveAgrees_iff.1 h.1).1 q).2.2 (Arbiter.grant_eq_some hg).1
    exact h.2.update a q ((Drawer.isOpen_of_isQueued queued).symm.trans (h.2 q))
  · exact h.2

theorem State.DrawersSound.closed {s : State} (h : s.DrawersSound) (q : LaneId)
    (ha : ((s.drawers.get q).sampleSense s.time false).2 = true) :
    (s.withDrawer q (((s.drawers.get q).sampleSense s.time false).1.senseClosed s.time).1).DrawersSound := by
  have wasOpen : (s.drawers.get q).isOpen = true := (h.2 q).trans (Drawer.senseOpen_of_accepted ha)
  obtain ⟨x, y, z, opened⟩ := Drawer.isOpen_iff _ |>.1 wasOpen
  have now : (((s.drawers.get q).sampleSense s.time false).1.senseClosed s.time).1.state = .closed := by
    rw [Drawer.senseClosed_state, if_pos]
    exact wasOpen
  refine ⟨h.1.withDrawer q ?_ ?_, h.2.update s.arbiter q ?_⟩
  · simp only [Drawer.isQueued, now, opened]
  · simp only [Drawer.isDriving, now, opened]
  · rw [Drawer.senseClosed_senseOpen, Drawer.sampleSense_senseOpen, if_pos ha]
    simp only [Drawer.isOpen, now]

theorem State.DrawersSound.confirmed {s : State} (h : s.DrawersSound) (q : LaneId) :
    (s.withDrawer q ((s.drawers.get q).confirmExpired s.time).1).DrawersSound := by
  have sense := (s.drawers.get q).confirmExpired_senseOpen s.time
  rcases (s.drawers.get q).confirmExpired_state s.time with same | ⟨⟨e, confirming⟩, closed⟩
  · exact h.withDrawer q same sense
  · refine ⟨h.1.withDrawer q ?_ ?_, h.2.withDrawer q ?_ sense⟩
    · simp only [Drawer.isQueued, closed, confirming]
    · simp only [Drawer.isDriving, closed, confirming]
    · simp only [Drawer.isOpen, closed, confirming]

theorem State.drawersSound_kept : KeptByCommands State.DrawersSound := by
  constructor
  case toKeptByBlocks =>
    constructor
    case toKeptByEvents => constructor <;> (intros; assumption)
    case abandoned =>
      exact fun s q t r hq h => ⟨h.1.abandoned q t r hq, h.2.update _ q
        ((Drawer.isOpen_of_isQueued hq).symm.trans (h.2 q))⟩
    all_goals intros; assumption
  case offeredFrame =>
    intro s f h
    unfold State.offerFrame
    simp only
    repeat' split
    all_goals exact h
  case reset => exact fun _ _ _ _ _ => ⟨State.reset_driveAgrees, State.reset_drawersFollowSense⟩
  case granted => exact fun s h => h.grantOne
  case enqueued =>
    intro s q hc h
    have shut : (s.drawers.get q).isOpen = false := by
      unfold Drawer.isOpen
      rw [hc]
    exact ⟨h.1.enqueued q hc, h.2.update _ q (shut.symm.trans (h.2 q))⟩
  case pulsed =>
    intro s q e hd h
    exact ⟨h.1.pulsed q e (Drawer.isDriving_of_pulseDue hd),
      h.2.update _ q ((Drawer.isOpen_of_pulseDue hd).symm.trans (h.2 q))⟩
  case cooled => exact fun s q h => h.withDrawer q rfl rfl
  case sensed =>
    intro s q raw ha h
    refine h.withDrawer q rfl ?_
    rw [Drawer.sampleSense_senseOpen, ha]
    rfl
  case openedDrawer =>
    intro s q ha h
    refine ⟨h.1.opened q _, h.2.update _ q ?_⟩
    rw [Drawer.senseOpened_isOpen, Drawer.senseOpened_senseOpen, Drawer.sampleSense_senseOpen, if_pos ha]
  case closedDrawer => exact fun s q ha h => h.closed q ha
  case confirmed => exact fun s q h => h.confirmed q
  case leftOpened =>
    intro s q h
    obtain ⟨⟨isOpen, queued, driving⟩, sense⟩ := (s.drawers.get q).leftOpenExpired_isOpen s.time
    exact ⟨h.1.withDrawer q queued driving, h.2.withDrawer q isOpen sense⟩
  case drawerSet => exact fun s q _ h => h.withDrawer q rfl rfl
  all_goals intros; assumption

theorem State.drawersSound_clearCounters (s : State) (x : CounterScope) (h : s.DrawersSound) :
    (s.clearCounters x).DrawersSound := by
  cases x with
  | drawer q => exact h.withDrawer q rfl rfl
  | _ => exact h

/-- Two slots, so at most two drawers DRIVING (R139). -/
theorem State.DriveAgrees.driving_length {s : State} (h : s.DriveAgrees) : s.driving.length ≤ 2 := by
  have nodup : s.driving.Nodup := List.Nodup.filter _ (by decide)
  have slots : s.driving ⊆ s.arbiter.slot1.toList ++ s.arbiter.slot2.toList := by
    intro q hq
    have holds := ((s.driveAgrees_iff.1 h).1 q).1.1 (List.mem_filter.1 hq).2
    simpa [Arbiter.holds] using holds
  have two : ∀ o : Option LaneId, o.toList.length ≤ 1 := by
    intro o
    cases o <;> simp
  have := (nodup.subperm slots).length_le
  have one := two s.arbiter.slot1
  have other := two s.arbiter.slot2
  rw [List.length_append] at this
  omega

end Sys2Proof.Machine

/-!
PROOF. What an event and the handing on of an effect leave alone: the frames that the invariants of the monitors, of the
inhibits and of the lockouts rest on.
-/

namespace Sys2Proof.Machine

/-! ## The event path -/

/-- The blocks that the event path leaves alone are the same in t as in s. -/
def SameBlocks (s t : State) : Prop :=
  t.time = s.time ∧ t.keyboards = s.keyboards ∧ t.scanners = s.scanners ∧ t.meters = s.meters ∧
    t.drawers = s.drawers ∧ t.arbiter = s.arbiter ∧ t.interlocks = s.interlocks ∧ t.modes = s.modes

theorem SameBlocks.refl (s : State) : SameBlocks s s := ⟨rfl, rfl, rfl, rfl, rfl, rfl, rfl, rfl⟩

theorem SameBlocks.events (s : State) : KeptByEvents (SameBlocks s) := by
  constructor
  all_goals intros; assumption

theorem State.produce_same (s : State) (q : LaneId) (t : Time) (b : EventBody) : SameBlocks s (s.produce q t b) :=
  State.produce_keeps (SameBlocks.events s) s q t b (SameBlocks.refl s)

theorem State.perform_same (s : State) (q : LaneId) (l : List LaneEffect) : SameBlocks s (s.perform q l) := by
  refine List.foldl_keeps (P := SameBlocks s) (fun u e h => ?_) l s (SameBlocks.refl s)
  cases e with
  | produce t b => exact State.produce_keeps (SameBlocks.events s) u q t b h
  | handOn x => exact h
  | emptyRecent => exact h

section
variable (s : State) (q : LaneId) (t : Time) (b : EventBody) (l : List LaneEffect)

@[simp] theorem State.produce_time : (s.produce q t b).time = s.time := (s.produce_same q t b).1

@[simp] theorem State.produce_keyboards : (s.produce q t b).keyboards = s.keyboards := (s.produce_same q t b).2.1

@[simp] theorem State.produce_scanners : (s.produce q t b).scanners = s.scanners := (s.produce_same q t b).2.2.1

@[simp] theorem State.produce_meters : (s.produce q t b).meters = s.meters := (s.produce_same q t b).2.2.2.1

@[simp] theorem State.produce_drawers : (s.produce q t b).drawers = s.drawers := (s.produce_same q t b).2.2.2.2.1

@[simp] theorem State.produce_arbiter : (s.produce q t b).arbiter = s.arbiter := (s.produce_same q t b).2.2.2.2.2.1

@[simp] theorem State.produce_interlocks : (s.produce q t b).interlocks = s.interlocks :=
  (s.produce_same q t b).2.2.2.2.2.2.1

@[simp] theorem State.produce_modes : (s.produce q t b).modes = s.modes := (s.produce_same q t b).2.2.2.2.2.2.2

@[simp] theorem State.perform_time : (s.perform q l).time = s.time := (s.perform_same q l).1

@[simp] theorem State.perform_keyboards : (s.perform q l).keyboards = s.keyboards := (s.perform_same q l).2.1

@[simp] theorem State.perform_scanners : (s.perform q l).scanners = s.scanners := (s.perform_same q l).2.2.1

@[simp] theorem State.perform_meters : (s.perform q l).meters = s.meters := (s.perform_same q l).2.2.2.1

@[simp] theorem State.perform_drawers : (s.perform q l).drawers = s.drawers := (s.perform_same q l).2.2.2.2.1

@[simp] theorem State.perform_arbiter : (s.perform q l).arbiter = s.arbiter := (s.perform_same q l).2.2.2.2.2.1

@[simp] theorem State.perform_interlocks : (s.perform q l).interlocks = s.interlocks :=
  (s.perform_same q l).2.2.2.2.2.2.1

@[simp] theorem State.perform_modes : (s.perform q l).modes = s.modes := (s.perform_same q l).2.2.2.2.2.2.2

end

/-! ## The inhibit outputs -/

/-- The inhibit output of a port. -/
def State.inhibitOf (s : State) (q : LaneId) (p : PortId) : InhibitOutput := (s.outputs.get q).inhibits.get p

@[simp] theorem State.withOutputs_outputs_get (s : State) (q r : LaneId) (u : LaneOutputs) :
    (s.withOutputs q u).outputs.get r = if r = q then u else s.outputs.get r := by
  rw [State.withOutputs_outputs, Lanes.get_set]

/-- LAMP and TONE are written apart from the inhibits. -/
@[simp] theorem State.inhibitOf_updateSignal (s : State) (q r : LaneId) (o : SignalOut)
    (f : SignalOutput → SignalOutput) (p : PortId) : (s.updateSignal q o f).inhibitOf r p = s.inhibitOf r p := by
  unfold State.inhibitOf State.updateSignal
  simp only [State.withOutputs_outputs_get]
  split
  · rename_i here
    cases o <;> simp [LaneOutputs.withSignal, here]
  · rfl

@[simp] theorem State.inhibitOf_resolveSignals (s : State) (r : LaneId) (p : PortId) :
    s.resolveSignals.inhibitOf r p = s.inhibitOf r p :=
  List.foldl_keeps (P := fun t => t.inhibitOf r p = s.inhibitOf r p) (fun t q h => by simpa using h) allLanes s rfl

@[simp] theorem State.testWait_outputs (s : State) (q : LaneId) (src : Source) (n : Half) :
    (s.testWait q src n).outputs = s.outputs := by
  unfold State.testWait
  split
  · split <;> rfl
  · rfl

@[simp] theorem State.markReady_outputs (s : State) (q : LaneId) (n : Nat) : (s.markReady q n).outputs = s.outputs := by
  unfold State.markReady
  split <;> rfl

@[simp] theorem State.inhibitOf_startSignal (s : State) (q r : LaneId) (x : Option (SignalOut × Nat)) (p : PortId) :
    (s.startSignal q x).inhibitOf r p = s.inhibitOf r p := by
  unfold State.startSignal
  split
  · simp
  · rfl

@[simp] theorem State.inhibitOf_offerEvent (s : State) (d r : LaneId) (e : Event) (x : Option (SignalOut × Nat))
    (p : PortId) : (s.offerEvent d e x).inhibitOf r p = s.inhibitOf r p := by
  unfold State.offerEvent
  simp only
  split
  · rw [State.inhibitOf_startSignal]
    simp [State.inhibitOf]
  · rfl

@[simp] theorem State.inhibitOf_produce (s : State) (q r : LaneId) (t : Time) (b : EventBody) (p : PortId) :
    (s.produce q t b).inhibitOf r p = s.inhibitOf r p := by
  unfold State.produce
  simp only
  split
  · rfl
  · exact State.inhibitOf_offerEvent _ _ _ _ _ _
  · exact State.inhibitOf_offerEvent _ _ _ _ _ _

@[simp] theorem State.inhibitOf_perform (s : State) (q r : LaneId) (l : List LaneEffect) (p : PortId) :
    (s.perform q l).inhibitOf r p = s.inhibitOf r p := by
  refine List.foldl_keeps (P := fun t => t.inhibitOf r p = s.inhibitOf r p) (fun t e h => ?_) l s rfl
  cases e with
  | produce t' b => exact (State.inhibitOf_produce t q r t' b p).trans h
  | handOn x => exact h
  | emptyRecent => exact h

/-! ## Effects handed on -/

theorem State.resolveSignals_same (s : State) : SameBlocks s s.resolveSignals :=
  State.resolveSignals_keeps (SameBlocks.events s) s (SameBlocks.refl s)

@[simp] theorem State.resolveSignals_interlocks (s : State) : s.resolveSignals.interlocks = s.interlocks :=
  s.resolveSignals_same.2.2.2.2.2.2.1

@[simp] theorem State.inOrder_same {α : Type} (s : State) (l : List α) : SameBlocks s (s.inOrder l).2 := by
  unfold State.inOrder
  split <;> exact SameBlocks.refl s

theorem State.inhibitOf_inOrder {α : Type} (s : State) (l : List α) (r : LaneId) (p : PortId) :
    (s.inOrder l).2.inhibitOf r p = s.inhibitOf r p := by
  unfold State.inOrder
  split <;> rfl

/-- No effect handed on changes a monitor, an effect condition, an enable or a meter. -/
theorem State.handEffect_frame (s : State) (x : (LaneId × Effect) × Bool) :
    (s.handEffect x).interlocks = s.interlocks ∧ (s.handEffect x).modes = s.modes ∧
      (s.handEffect x).meters = s.meters := by
  unfold State.handEffect
  split
  · split
    · simp [State.keyboardDoes]
    · exact ⟨rfl, rfl, rfl⟩
  · exact ⟨rfl, rfl, rfl⟩
  · split
    · simp [State.abandonOpen, State.drawerDoes]
    · exact ⟨rfl, rfl, rfl⟩
  · exact ⟨rfl, rfl, rfl⟩
  · exact ⟨rfl, rfl, rfl⟩
  · exact ⟨rfl, rfl, rfl⟩

/-- The state in which the changed effects are handed on: the conditions are new, LAMP and TONE resolved (R161). -/
def State.recomputed (s : State) : State :=
  { s with
    interlocks := { s.interlocks with conditions := allConditions s.interlocks.monitors } }.resolveSignals

/-- The effects that a recomputation changes. -/
def State.changedEffects (s : State) : List ((LaneId × Effect) × Bool) :=
  effectChanges s.interlocks.conditions (allConditions s.interlocks.monitors)

theorem State.refreshEffects_eq (s : State) :
    s.refreshEffects =
      (s.recomputed.inOrder s.changedEffects).1.foldl State.handEffect (s.recomputed.inOrder s.changedEffects).2 := rfl

@[simp] theorem State.recomputed_interlocks (s : State) :
    s.recomputed.interlocks = { s.interlocks with conditions := allConditions s.interlocks.monitors } :=
  State.resolveSignals_interlocks _

theorem State.recomputed_frame (s : State) :
    s.recomputed.modes = s.modes ∧ s.recomputed.meters = s.meters ∧ s.recomputed.drawers = s.drawers ∧
      s.recomputed.arbiter = s.arbiter := by
  obtain ⟨-, -, -, meters, drawers, arbiter, -, modes⟩ := State.resolveSignals_same
    { s with interlocks := { s.interlocks with conditions := allConditions s.interlocks.monitors } }
  exact ⟨modes, meters, drawers, arbiter⟩

/-- A property of the changes left to hand on: each one handed on leaves it of the rest, so in the end it stands with
nothing left. -/
theorem List.foldl_handEffect {P : List ((LaneId × Effect) × Bool) → State → Prop}
    (hand : ∀ x l s, P (x :: l) s → P l (s.handEffect x)) :
    ∀ (l : List ((LaneId × Effect) × Bool)) (s : State), P l s → P [] (l.foldl State.handEffect s)
  | [], _, h => h
  | x :: l, s, h => List.foldl_handEffect hand l (s.handEffect x) (hand x l s h)

/-- After a recomputation the effect conditions are those the ACTIVE monitors give (R161). -/
@[simp] theorem State.refreshEffects_interlocks (s : State) :
    s.refreshEffects.interlocks = { s.interlocks with conditions := allConditions s.interlocks.monitors } := by
  rw [State.refreshEffects_eq]
  refine List.foldl_handEffect
    (P := fun _ t => t.interlocks = { s.interlocks with conditions := allConditions s.interlocks.monitors })
    (fun x _ t h => ((t.handEffect_frame x).1).trans h) _ _ ?_
  exact (State.inOrder_same _ _).2.2.2.2.2.2.1.trans s.recomputed_interlocks

/-- An effect of a lane is handed on exactly where its condition changes, with the new value. -/
theorem mem_effectChanges (old new : Lanes EffectConditions) (q : LaneId) (e : Effect) (v : Bool) :
    ((q, e), v) ∈ effectChanges old new ↔ (new.get q).of e = v ∧ (old.get q).of e ≠ v := by
  have all : (q, e) ∈ allEffects := by
    revert q
    cases e <;> decide
  simp only [effectChanges, List.mem_map, List.mem_filter, Prod.mk.injEq, Prod.exists, bne_iff_ne]
  constructor
  · rintro ⟨q', e', ⟨-, differs⟩, ⟨rfl, rfl⟩, rfl⟩
    exact ⟨rfl, differs⟩
  · rintro ⟨rfl, differs⟩
    exact ⟨q, e, ⟨all, differs⟩, ⟨rfl, rfl⟩, rfl⟩

end Sys2Proof.Machine

/-!
PROOF. Lockouts (the rest of obligation O58), monitors and inhibits (obligation O59): what stands again once the changed
effects have been handed on, and once the monitors have settled.
-/

namespace Sys2Proof.Machine

/-! ## No waiting request under a lockout (R149) -/

/-- Every lane that is locked out with a waiting request still has its lockout to be handed on. -/
def State.LockoutsOwed (l : List ((LaneId × Effect) × Bool)) (s : State) : Prop :=
  ∀ q, (s.interlocks.conditions.get q).lockedOut = true → (s.drawers.get q).isQueued = true → ((q, .lockout), true) ∈ l

theorem State.lockoutsOwed_nil_iff (s : State) : s.LockoutsOwed [] ↔ s.LockoutHolds := by
  refine forall_congr' fun q => forall_congr' fun _ => ?_
  simp

/-- The lockout invariant reads the conditions and which drawers wait. -/
theorem State.LockoutHolds.congr {s t : State} (h : s.LockoutHolds)
    (hc : t.interlocks.conditions = s.interlocks.conditions)
    (hd : ∀ q, (t.drawers.get q).isQueued = true → (s.drawers.get q).isQueued = true) : t.LockoutHolds := by
  intro q locked
  rw [hc] at locked
  by_contra waits
  have was := hd q (by simpa using waits)
  rw [h q locked] at was
  exact nomatch was

/-- A drawer that does not come to wait. -/
theorem State.LockoutHolds.withDrawer {s : State} (h : s.LockoutHolds) (a : Arbiter) (q : LaneId) {d : Drawer}
    (hd : d.isQueued = true → (s.drawers.get q).isQueued = true) :
    ({ s with arbiter := a }.withDrawer q d).LockoutHolds := by
  refine h.congr rfl fun r => ?_
  rw [State.withDrawer_drawers, Lanes.get_set]
  split
  · rename_i here
    rw [here]
    exact hd
  · exact id

theorem State.abandonOpen_drawers (s : State) (q : LaneId) (t : Time) (r : AbandonReason) :
    (s.abandonOpen q t r).drawers = s.drawers.set q ((s.drawers.get q).abandon t r).1 := by
  simp [State.abandonOpen, State.drawerDoes]

/-- What an effect handed on does to the drawers: only a lockout that starts gives a waiting request up. -/
theorem State.handEffect_drawers (s : State) (x : (LaneId × Effect) × Bool) :
    (s.handEffect x).drawers = s.drawers ∨
      ∃ q, x = ((q, .lockout), true) ∧
        (s.handEffect x).drawers = s.drawers.set q ((s.drawers.get q).abandon s.time .lockout).1 := by
  unfold State.handEffect
  split
  · left
    split
    · simp [State.keyboardDoes]
    · rfl
  · exact Or.inl rfl
  · split
    · exact Or.inr ⟨_, rfl, State.abandonOpen_drawers _ _ _ _⟩
    · exact Or.inl rfl
  · exact Or.inl rfl
  · exact Or.inl rfl
  · exact Or.inl rfl

theorem State.handEffect_lockout_queued (s : State) (q : LaneId) :
    ((s.handEffect ((q, .lockout), true)).drawers.get q).isQueued = false := by
  show ((if (s.drawers.get q).isQueued then s.abandonOpen q s.time .lockout else s).drawers.get q).isQueued = false
  split
  · rw [State.abandonOpen_drawers, Lanes.get_set_self]
    rfl
  · rename_i idle
    simpa using idle

theorem State.handEffect_queued (s : State) (x : (LaneId × Effect) × Bool) (q : LaneId)
    (h : ((s.handEffect x).drawers.get q).isQueued = true) : (s.drawers.get q).isQueued = true := by
  rcases s.handEffect_drawers x with same | ⟨r, -, gone⟩
  · rwa [same] at h
  · rw [gone, Lanes.get_set] at h
    split at h
    · exact nomatch h
    · exact h

theorem State.LockoutsOwed.handEffect (x : (LaneId × Effect) × Bool) (l : List ((LaneId × Effect) × Bool)) (s : State)
    (h : s.LockoutsOwed (x :: l)) : (s.handEffect x).LockoutsOwed l := by
  intro q locked waits
  rw [(s.handEffect_frame x).1] at locked
  rcases List.mem_cons.1 (h q locked (s.handEffect_queued x q waits)) with rfl | owed
  · rw [State.handEffect_lockout_queued] at waits
    exact nomatch waits
  · exact owed

/-- A lockout that is new is handed on; one that is not found no waiting request (R149, R161). -/
theorem State.LockoutHolds.refreshEffects {s : State} (h : s.LockoutHolds) : s.refreshEffects.LockoutHolds := by
  rw [← State.lockoutsOwed_nil_iff, State.refreshEffects_eq]
  refine List.foldl_handEffect State.LockoutsOwed.handEffect _ _ fun q locked waits => ?_
  obtain ⟨-, -, -, -, drawers, -, interlocks, -⟩ := State.inOrder_same s.recomputed s.changedEffects
  rw [interlocks, State.recomputed_interlocks] at locked
  rw [drawers, s.recomputed_frame.2.2.1] at waits
  rw [State.mem_inOrder]
  refine (mem_effectChanges _ _ q .lockout true).2 ⟨locked, fun before => ?_⟩
  rw [h q before] at waits
  exact nomatch waits

theorem State.LockoutHolds.produce {s : State} (h : s.LockoutHolds) (q : LaneId) (t : Time) (b : EventBody) :
    (s.produce q t b).LockoutHolds :=
  h.congr (by rw [State.produce_interlocks]) fun r => by rw [State.produce_drawers]; exact id

theorem State.LockoutHolds.perform {s : State} (h : s.LockoutHolds) (q : LaneId) (l : List LaneEffect) :
    (s.perform q l).LockoutHolds :=
  h.congr (by rw [State.perform_interlocks]) fun r => by rw [State.perform_drawers]; exact id

theorem State.LockoutHolds.turnMonitor {s : State} (h : s.LockoutHolds) (i : MonitorId) (t : Time)
    (r : Monitor × MonitorTurn) : (s.turnMonitor i t r).LockoutHolds := by
  have turned : (s.withMonitor i r.1).LockoutHolds := h
  unfold State.turnMonitor
  simp only
  split
  · exact turned
  · exact (turned.produce _ t _).refreshEffects
  · exact turned.refreshEffects.produce _ t _

theorem State.LockoutHolds.rewriteMonitor {s : State} (h : s.LockoutHolds) (i : MonitorId) (g : MonitorSettings) :
    (s.rewriteMonitor i g).LockoutHolds := by
  have ended : (s.endMonitor i g.enabled).LockoutHolds := by
    unfold State.endMonitor
    split
    · exact State.LockoutHolds.produce (s := s.withMonitor i _) h _ _ _
    · exact h
  refine State.LockoutHolds.refreshEffects ?_
  unfold State.beginMonitor
  simp only
  split
  · split
    · exact State.LockoutHolds.produce (s := ((s.endMonitor i g.enabled).withMonitor i _).withMonitor i _) ended _ _ _
    · exact ended
  · exact ended

theorem State.LockoutHolds.grantOne {s : State} (h : s.LockoutHolds) : s.grantOne.LockoutHolds := by
  unfold State.grantOne
  split
  · exact h.withDrawer _ _ nofun
  · exact h

theorem State.LockoutHolds.handEnable {s : State} (h : s.LockoutHolds) (q : LaneId) (x : Enable × Bool) :
    (State.handEnable q s x).LockoutHolds := by
  unfold State.handEnable
  split
  · exact h
  · exact State.LockoutHolds.perform (s := s.withKeyboard q _) h q _
  · exact h
  · exact State.LockoutHolds.perform (s := s.withPort q _ _) h q _
  · exact h.grantOne.grantOne
  · exact h

theorem State.lockoutHolds_keptWeakly : KeptWeakly State.LockoutHolds := by
  constructor
  case produced => exact fun s q t b h => h.produce q t b
  case tookChange => exact fun s i _ h => h.turnMonitor i _ _
  case qualified => exact fun s i t _ h => h.turnMonitor i _ _
  case letGo => exact fun s i _ _ h => h.turnMonitor i _ _
  case rewrote => exact fun s i g h => h.rewriteMonitor i g
  case enabled => exact fun s q x h => State.LockoutHolds.handEnable (s := s.withEnable q x.1 x.2) h q x
  case granted => exact fun s h => h.grantOne
  case abandoned => exact fun s q t r _ h => h.withDrawer _ q nofun
  case enqueued =>
    intro s q _ free h r locked
    rw [State.withDrawer_drawers, Lanes.get_set]
    split
    · rename_i here
      rw [here] at locked
      exact absurd (free.symm.trans locked) nofun
    · exact h r locked
  case pulsed => exact fun s q e _ h => h.withDrawer _ q nofun
  case kept => exact fun s q d hd h => h.withDrawer _ q fun queued => (Drawer.kinds_of_state hd).1 ▸ queued
  case openedDrawer =>
    intro s q d h
    refine h.withDrawer _ q fun queued => ?_
    exact absurd ((Drawer.isOpen_of_isQueued queued).symm.trans (d.senseOpened_isOpen s.time)) nofun
  case closedDrawer =>
    intro s q d hd h
    refine h.withDrawer _ q fun queued => ?_
    rw [← (Drawer.kinds_of_state hd).1]
    obtain ⟨e, he⟩ := (Drawer.isQueued_iff _).1 queued
    rw [Drawer.senseClosed_state] at he
    split at he
    · exact nomatch he
    · exact (Drawer.isQueued_iff d).2 ⟨e, he⟩
  case confirmed =>
    intro s q h
    refine h.withDrawer _ q fun queued => ?_
    rcases (s.drawers.get q).confirmExpired_state s.time with same | ⟨-, closed⟩
    · exact (Drawer.kinds_of_state same).1 ▸ queued
    · obtain ⟨e, he⟩ := (Drawer.isQueued_iff _).1 queued
      exact nomatch closed.symm.trans he
  case leftOpened =>
    exact fun s q h => h.withDrawer _ q fun queued =>
      ((s.drawers.get q).leftOpenExpired_isOpen s.time).1.2.1 ▸ queued
  all_goals intros; assumption

/-- Settles O58: the drawers agree with arbiter and switch after every update, and a lockout that starts is handed on
before anything else can wait under it. -/
theorem driveKept : Obligations.DriveKept := by
  refine ⟨fun s h => h.driving_length, fun s t agrees sense lockout hs => ?_⟩
  obtain ⟨agrees', sense'⟩ :=
    step_keeps_all State.drawersSound_kept State.drawersSound_clearCounters s t ⟨agrees, sense⟩ hs
  exact ⟨agrees', sense', step_keeps_strongly State.lockoutHolds_keptWeakly.strongly (fun _ h => h) (fun _ _ h => h)
    (fun _ _ _ _ => State.reset_lockoutHolds) s t lockout hs⟩

end Sys2Proof.Machine

/-!
PROOF. The monitors (obligation O59, first part): their states stay legal and the effect conditions theirs through every
operation, and the settling at a command's end brings their matches up to their conditions.
-/

namespace Sys2Proof.Machine

/-! ## The drawers and the arbiter, within a command -/

/-- Only the drive supply and the drawers' own events bear on the agreement of drawers and arbiter. -/
theorem State.driveAgrees_keptByBlocks : KeptByBlocks State.DriveAgrees := by
  constructor
  case toKeptByEvents => constructor <;> (intros; assumption)
  case abandoned => exact fun s q t r hq h => h.abandoned q t r hq
  all_goals intros; assumption

theorem State.driveAgrees_perform {s : State} (h : s.DriveAgrees) (q : LaneId) (l : List LaneEffect) :
    (s.perform q l).DriveAgrees := State.perform_keeps State.driveAgrees_keptByBlocks q l s h

theorem State.driveAgrees_refreshEffects {s : State} (h : s.DriveAgrees) : s.refreshEffects.DriveAgrees :=
  State.refreshEffects_keeps State.driveAgrees_keptByBlocks s h

theorem State.driveAgrees_produce {s : State} (h : s.DriveAgrees) (q : LaneId) (t : Time) (b : EventBody) :
    (s.produce q t b).DriveAgrees := State.produce_keeps State.driveAgrees_keptByBlocks.toKeptByEvents s q t b h

theorem State.driveAgrees_rewriteMonitor {s : State} (h : s.DriveAgrees) (i : MonitorId) (g : MonitorSettings) :
    (s.rewriteMonitor i g).DriveAgrees := by
  have ended : (s.endMonitor i g.enabled).DriveAgrees := by
    unfold State.endMonitor
    split
    · exact State.driveAgrees_produce (s := s.withMonitor i _) h _ _ _
    · exact h
  refine State.driveAgrees_refreshEffects ?_
  unfold State.beginMonitor
  simp only
  split
  · split
    · exact State.driveAgrees_produce (s := ((s.endMonitor i g.enabled).withMonitor i _).withMonitor i _) ended _ _ _
    · exact ended
  · exact ended

theorem State.driveAgrees_handEnable {s : State} (h : s.DriveAgrees) (q : LaneId) (x : Enable × Bool) :
    (State.handEnable q s x).DriveAgrees := by
  unfold State.handEnable
  split
  · exact h
  · exact State.driveAgrees_perform (s := s.withKeyboard q _) h q _
  · exact h
  · exact State.driveAgrees_perform (s := s.withPort q _ _) h q _
  · exact h.grantOne.grantOne
  · exact h

theorem State.driveAgrees_keptWeakly : KeptWeakly State.DriveAgrees := by
  constructor
  case produced => exact fun s q t b h => State.driveAgrees_produce h q t b
  case tookChange => exact fun s i he h => State.takeChange_keeps State.driveAgrees_keptByBlocks s i he h
  case qualified => exact fun s i t _ h => State.turnMonitor_keeps State.driveAgrees_keptByBlocks s i t _ h
  case letGo => exact fun s i _ _ h => State.turnMonitor_keeps State.driveAgrees_keptByBlocks s i _ _ h
  case rewrote => exact fun s i g h => State.driveAgrees_rewriteMonitor h i g
  case enabled => exact fun s q x h => State.driveAgrees_handEnable (s := s.withEnable q x.1 x.2) h q x
  case granted => exact fun s h => h.grantOne
  case abandoned => exact fun s q t r hq h => h.abandoned q t r hq
  case enqueued => exact fun s q hc _ h => h.enqueued q hc
  case pulsed => exact fun s q e hd h => h.pulsed q e (Drawer.isDriving_of_pulseDue hd)
  case kept =>
    intro s q d hd h
    obtain ⟨queued, driving, -⟩ := Drawer.kinds_of_state hd
    exact h.withDrawer q queued driving
  case openedDrawer => exact fun s q d h => h.opened q d
  case closedDrawer =>
    intro s q d hd h
    obtain ⟨queued, driving, isOpen⟩ := Drawer.kinds_of_state hd
    by_cases opened : d.isOpen = true
    · obtain ⟨a, b, c, stood⟩ := (Drawer.isOpen_iff d).1 opened
      have closed : (d.senseClosed s.time).1.state = .closed := by rw [Drawer.senseClosed_state, if_pos opened]
      refine h.withDrawer q (queued ▸ ?_) (driving ▸ ?_)
      · simp only [Drawer.isQueued, closed, stood]
      · simp only [Drawer.isDriving, closed, stood]
    · have same : (d.senseClosed s.time).1.state = d.state := by rw [Drawer.senseClosed_state, if_neg opened]
      obtain ⟨queued', driving', -⟩ := Drawer.kinds_of_state same
      exact h.withDrawer q (queued'.trans queued) (driving'.trans driving)
  case confirmed =>
    intro s q h
    rcases (s.drawers.get q).confirmExpired_state s.time with same | ⟨⟨e, confirming⟩, closed⟩
    · obtain ⟨queued, driving, -⟩ := Drawer.kinds_of_state same
      exact h.withDrawer q queued driving
    · refine h.withDrawer q ?_ ?_
      · simp only [Drawer.isQueued, closed, confirming]
      · simp only [Drawer.isDriving, closed, confirming]
  case leftOpened =>
    intro s q h
    obtain ⟨⟨-, queued, driving⟩, -⟩ := (s.drawers.get q).leftOpenExpired_isOpen s.time
    exact h.withDrawer q queued driving
  all_goals intros; assumption

/-! ## What a monitor gives -/

theorem anyGives_iff (ms : Vector Monitor 8) (q : LaneId) (bit : Nat) :
    anyGives ms q bit = true ↔ ∃ i : MonitorId, (ms.get i).gives q bit = true := by
  unfold anyGives
  rw [List.any_eq_true]
  constructor
  · rintro ⟨m, hm, gives⟩
    obtain ⟨i, hi, rfl⟩ := Vector.mem_iff_getElem.1 (Vector.mem_toList_iff.1 hm)
    exact ⟨⟨i, hi⟩, gives⟩
  · rintro ⟨i, gives⟩
    exact ⟨_, Vector.mem_toList_iff.2 (Vector.getElem_mem i.isLt), gives⟩

/-- The effect conditions depend on what each monitor gives, and on nothing else of them (R161). -/
theorem allConditions_congr {ms ms' : Vector Monitor 8}
    (h : ∀ (i : MonitorId) q bit, (ms'.get i).gives q bit = (ms.get i).gives q bit) :
    allConditions ms' = allConditions ms := by
  have same : ∀ q bit, anyGives ms' q bit = anyGives ms q bit := fun q bit => by
    rw [Bool.eq_iff_iff, anyGives_iff, anyGives_iff]
    simp only [h]
  simp only [allConditions, conditionsOf, same]

/-- A change of a match that is no entry to ACTIVE and no departure from it changes nothing a monitor gives. -/
theorem Monitor.takeMatch_gives {m : Monitor} {t : Time} {v : Bool} (h : (m.takeMatch t v).2 = .none) (q : LaneId)
    (bit : Nat) : (m.takeMatch t v).1.gives q bit = m.gives q bit := by
  unfold Monitor.gives
  rw [Monitor.takeMatch_settings]
  congr 2
  revert h
  unfold Monitor.takeMatch Monitor.matchBegins Monitor.matchEnds
  cases v <;> cases m.state <;> simp only [Bool.false_eq_true, if_true, if_false]
  · simp
  · simp
  · split <;> simp
  · split <;> simp
  · simp
  · simp

/-- A change of an enabled monitor's match leaves it in a legal state (R157 to R159). -/
theorem Monitor.takeMatch_legal {m : Monitor} (enabled : m.settings.enabled = true) (t : Time) (v : Bool) :
    (m.takeMatch t v).1.Legal := by
  unfold Monitor.takeMatch Monitor.matchBegins Monitor.matchEnds
  unfold Monitor.Legal
  cases v <;> cases m.state <;> simp only [Bool.false_eq_true, if_true, if_false]
  · by_cases latched : m.settings.latched = true
    · simp [latched, enabled]
    · simp [latched]
  · by_cases instant : m.settings.qualify = 0
    · simp [instant, enabled]
    · simp [instant, enabled]
  · simp [enabled]
  · simp [enabled]

/-! ## The monitors, within a command -/

/-- Every monitor stands in a legal state, and the effect conditions are those the ACTIVE ones give. -/
def State.MonitorsSound (s : State) : Prop := s.EffectsTrack ∧ ∀ i, (s.monitor i).Legal

theorem State.MonitorsSound.congr {s t : State} (h : s.MonitorsSound) (hi : t.interlocks = s.interlocks) :
    t.MonitorsSound := by
  unfold State.MonitorsSound State.EffectsTrack State.monitor at *
  rw [hi]
  exact h

/-- Once the effects are handed on, only the states of the monitors are in question. -/
theorem State.monitorsSound_of_refreshed {s t : State}
    (hi : t.interlocks = { s.interlocks with conditions := allConditions s.interlocks.monitors })
    (legal : ∀ i, (s.monitor i).Legal) : t.MonitorsSound := by
  unfold State.MonitorsSound State.EffectsTrack State.monitor at *
  rw [hi]
  exact ⟨rfl, legal⟩

theorem State.withMonitor_legal {s : State} {i : MonitorId} {m : Monitor} (h : ∀ j, j ≠ i → (s.monitor j).Legal)
    (hm : m.Legal) (j : MonitorId) : ((s.withMonitor i m).monitor j).Legal := by
  rw [State.monitor_withMonitor]
  split
  · exact hm
  · exact h j ‹_›

/-- A transition into a legal state; one that is no entry and no departure gives what the monitor gave. -/
theorem State.MonitorsSound.turnMonitor {s : State} (h : s.MonitorsSound) (i : MonitorId) (t : Time)
    (r : Monitor × MonitorTurn) (legal : r.1.Legal)
    (same : r.2 = .none → ∀ q bit, r.1.gives q bit = (s.monitor i).gives q bit) :
    (s.turnMonitor i t r).MonitorsSound := by
  have all := State.withMonitor_legal (fun j _ => h.2 j) legal (s := s) (i := i)
  unfold State.turnMonitor State.monitorEvent
  simp only
  split
  · rename_i still
    refine ⟨h.1.trans (allConditions_congr fun j q bit => ?_).symm, all⟩
    change ((s.withMonitor i r.1).monitor j).gives q bit = (s.monitor j).gives q bit
    rw [State.monitor_withMonitor]
    split
    · rename_i here
      rw [here, same still]
    · rfl
  · exact State.monitorsSound_of_refreshed (s := s.withMonitor i r.1)
      (by rw [State.refreshEffects_interlocks, State.produce_interlocks]) all
  · exact State.monitorsSound_of_refreshed (s := s.withMonitor i r.1)
      (by rw [State.produce_interlocks, State.refreshEffects_interlocks]) all

theorem State.endMonitor_monitor (s : State) (i j : MonitorId) (b : Bool) (h : j ≠ i) :
    (s.endMonitor i b).monitor j = s.monitor j := by
  unfold State.endMonitor
  split
  · unfold State.monitorEvent
    rw [State.monitor_congr (congrArg _ (State.produce_interlocks _ _ _ _)), State.monitor_withMonitor, if_neg h]
  · rfl

/-- A rewritten monitor is INACTIVE without a match, or takes its match as it begins. -/
theorem State.beginMonitor_legal {s : State} {i : MonitorId} (h : ∀ j, j ≠ i → (s.monitor j).Legal)
    (g : MonitorSettings) (j : MonitorId) : ((s.beginMonitor i g).monitor j).Legal := by
  have fresh := State.withMonitor_legal (m := Monitor.rewritten g) h rfl
  unfold State.beginMonitor
  simp only
  split
  · rename_i begins
    have enabled : g.enabled = true := by
      unfold State.matchOf at begins
      rw [Bool.and_eq_true] at begins
      exact begins.1
    have legal : ((Monitor.rewritten g).matchBegins s.time).1.Legal :=
      Monitor.takeMatch_legal (m := Monitor.rewritten g) enabled s.time true
    have all := State.withMonitor_legal (fun k _ => fresh k) legal (s := s.withMonitor i _) (i := i) (m := _)
    split
    · unfold State.monitorEvent
      rw [State.monitor_congr (congrArg _ (State.produce_interlocks _ _ _ _))]
      exact all j
    · exact all j
  · exact fresh j

theorem State.MonitorsSound.rewriteMonitor {s : State} (h : s.MonitorsSound) (i : MonitorId) (g : MonitorSettings) :
    (s.rewriteMonitor i g).MonitorsSound := by
  refine State.monitorsSound_of_refreshed (State.refreshEffects_interlocks _) fun j => ?_
  refine State.beginMonitor_legal (fun k away => ?_) g j
  rw [State.endMonitor_monitor _ _ _ _ away]
  exact h.2 k

theorem State.grantOne_interlocks (s : State) : s.grantOne.interlocks = s.interlocks := by
  unfold State.grantOne
  split <;> rfl

/-- No enable handed on changes a monitor. -/
theorem State.handEnable_interlocks (q : LaneId) (s : State) (x : Enable × Bool) :
    (State.handEnable q s x).interlocks = s.interlocks := by
  unfold State.handEnable
  split
  · rfl
  · exact State.perform_interlocks (s.withKeyboard q _) q _
  · rfl
  · exact State.perform_interlocks (s.withPort q _ _) q _
  · exact (State.grantOne_interlocks _).trans s.grantOne_interlocks
  · rfl

theorem State.monitorsSound_keptWeakly : KeptWeakly State.MonitorsSound := by
  constructor
  case produced => exact fun s q t b h => h.congr (State.produce_interlocks s q t b)
  case tookChange =>
    exact fun s i enabled h => h.turnMonitor i _ _ (Monitor.takeMatch_legal enabled _ _) Monitor.takeMatch_gives
  case qualified =>
    intro s i t due h
    refine h.turnMonitor i t _ ?_ nofun
    have legal := h.2 i
    unfold Monitor.qualifyExpiry at due
    unfold Monitor.Legal at legal ⊢
    split at due
    · rename_i qualifying
      rw [qualifying] at legal
      exact ⟨legal.1, fun _ => legal.2⟩
    · exact nomatch due
  case letGo => exact fun s i _ unmatched h => h.turnMonitor i _ _ unmatched nofun
  case rewrote => exact fun s i g h => h.rewriteMonitor i g
  case enabled => exact fun s q x h => h.congr (State.handEnable_interlocks q (s.withEnable q x.1 x.2) x)
  case granted => exact fun s h => h.congr s.grantOne_interlocks
  all_goals intros; assumption

/-! ## Matches, once the monitors have settled (R157) -/

/-- A disabled monitor is INACTIVE and does not match. -/
theorem Monitor.Legal.isMatch_of_disabled {m : Monitor} (h : m.Legal) (disabled : m.settings.enabled = false) :
    m.isMatch = false := by
  unfold Monitor.Legal at h
  split at h
  · exact h
  · exact absurd (disabled.symm.trans h.1) nofun
  · exact absurd (disabled.symm.trans h.1) nofun

theorem State.stale_nil_iff {s : State} (legal : ∀ i, (s.monitor i).Legal) : s.stale = [] ↔ s.MonitorsTrack := by
  rw [List.eq_nil_iff_forall_not_mem]
  refine forall_congr' fun i => ?_
  rw [State.mem_stale]
  constructor
  · intro fresh
    cases enabled : (s.monitor i).settings.enabled
    · rw [(legal i).isMatch_of_disabled enabled]
      simp [State.matchOf, enabled]
    · by_contra differs
      exact fresh ⟨enabled, differs⟩
  · exact fun tracks stale => stale.2 tracks

/-- The monitors' part of what stands within a command. -/
def State.MonitorsMoving (s : State) : Prop := s.DriveAgrees ∧ s.MonitorsSound

/-- What stands when a command has ended: the monitors have settled too. -/
def State.MonitorsSettled (s : State) : Prop := s.MonitorsMoving ∧ s.MonitorsTrack

theorem KeptWeakly.and {V W : State → Prop} (v : KeptWeakly V) (w : KeptWeakly W) :
    KeptWeakly fun s => V s ∧ W s := by
  constructor
  case linked => exact fun s l h => ⟨v.linked s l h.1, w.linked s l h.2⟩
  case tabled => exact fun s t h => ⟨v.tabled s t h.1, w.tabled s t h.2⟩
  case patterned => exact fun s p h => ⟨v.patterned s p h.1, w.patterned s p h.2⟩
  case freed => exact fun s n h => ⟨v.freed s n h.1, w.freed s n h.2⟩
  case stored => exact fun s st h => ⟨v.stored s st h.1, w.stored s st h.2⟩
  case produced => exact fun s q t b h => ⟨v.produced s q t b h.1, w.produced s q t b h.2⟩
  case signalled => exact fun s q o f h => ⟨v.signalled s q o f h.1, w.signalled s q o f h.2⟩
  case inhibited => exact fun s q p l h => ⟨v.inhibited s q p l h.1, w.inhibited s q p l h.2⟩
  case checkered => exact fun s q c h => ⟨v.checkered s q c h.1, w.checkered s q c h.2⟩
  case keyed => exact fun s q k h => ⟨v.keyed s q k h.1, w.keyed s q k h.2⟩
  case ported => exact fun s q p x h => ⟨v.ported s q p x h.1, w.ported s q p x h.2⟩
  case metered => exact fun s q p m hm h => ⟨v.metered s q p m hm h.1, w.metered s q p m hm h.2⟩
  case held => exact fun s q p m h => ⟨v.held s q p m h.1, w.held s q p m h.2⟩
  case tookChange => exact fun s i he h => ⟨v.tookChange s i he h.1, w.tookChange s i he h.2⟩
  case qualified => exact fun s i t ht h => ⟨v.qualified s i t ht h.1, w.qualified s i t ht h.2⟩
  case letGo => exact fun s i ha hm h => ⟨v.letGo s i ha hm h.1, w.letGo s i ha hm h.2⟩
  case rewrote => exact fun s i g h => ⟨v.rewrote s i g h.1, w.rewrote s i g h.2⟩
  case enabled => exact fun s q x h => ⟨v.enabled s q x h.1, w.enabled s q x h.2⟩
  case moded => exact fun s q m hm h => ⟨v.moded s q m hm h.1, w.moded s q m hm h.2⟩
  case granted => exact fun s h => ⟨v.granted s h.1, w.granted s h.2⟩
  case abandoned => exact fun s q t r hq h => ⟨v.abandoned s q t r hq h.1, w.abandoned s q t r hq h.2⟩
  case enqueued => exact fun s q hc hl h => ⟨v.enqueued s q hc hl h.1, w.enqueued s q hc hl h.2⟩
  case pulsed => exact fun s q e he h => ⟨v.pulsed s q e he h.1, w.pulsed s q e he h.2⟩
  case kept => exact fun s q d hd h => ⟨v.kept s q d hd h.1, w.kept s q d hd h.2⟩
  case openedDrawer => exact fun s q d h => ⟨v.openedDrawer s q d h.1, w.openedDrawer s q d h.2⟩
  case closedDrawer => exact fun s q d hd h => ⟨v.closedDrawer s q d hd h.1, w.closedDrawer s q d hd h.2⟩
  case confirmed => exact fun s q h => ⟨v.confirmed s q h.1, w.confirmed s q h.2⟩
  case leftOpened => exact fun s q h => ⟨v.leftOpened s q h.1, w.leftOpened s q h.2⟩

theorem State.monitorsMoving_keptWeakly : KeptWeakly State.MonitorsMoving :=
  State.driveAgrees_keptWeakly.and State.monitorsSound_keptWeakly

theorem Quiet.monitorsTrack {s t : State} (h : Quiet s t) (tracks : s.MonitorsTrack) : t.MonitorsTrack := by
  intro i
  have same : t.monitor i = s.monitor i := State.monitor_congr h.monitors i
  rw [same, h.matchOf]
  exact tracks i

/-- A drawer that is granted waited, and so was shut, and is. -/
theorem Quiet.grantOne {s : State} (h : s.DriveAgrees) : Quiet s s.grantOne := by
  unfold State.grantOne
  split
  · rename_i q a granted
    have queued : (s.drawers.get q).isQueued = true :=
      ((s.driveAgrees_iff.1 h).1 q).2.2 (Arbiter.grant_eq_some granted).1
    exact Quiet.drawer s a q (Drawer.isOpen_of_isQueued queued).symm rfl
  · exact Quiet.of_eq rfl rfl rfl (fun _ => rfl) rfl rfl

theorem State.monitorsSettled_keptStrongly : KeptStrongly State.MonitorsSettled State.MonitorsMoving where
  toKeptWeakly := State.monitorsMoving_keptWeakly
  weak := fun _ h => h.1
  settled := fun s h =>
    have moving := State.monitorsMoving_keptWeakly.settle s h
    ⟨moving, (State.stale_nil_iff moving.2.2).1 s.settle_stale⟩
  quiet := fun _ _ h moving quiet => ⟨moving, quiet.monitorsTrack h.2⟩
  grantedStrongly := fun s h =>
    ⟨State.monitorsMoving_keptWeakly.granted s h.1, (Quiet.grantOne h.1.1).monitorsTrack h.2⟩

/-- Every step keeps the monitors in their states, their matches and their effects (R157, R159, R161). -/
theorem State.MonitorsSettled.step {s t : State} (h : s.MonitorsSettled) (hs : Machine.step s = .next t) :
    t.MonitorsSettled :=
  step_keeps_strongly State.monitorsSettled_keptStrongly (fun _ h => h) (fun _ _ h => h)
    (fun _ _ _ _ => ⟨⟨State.reset_driveAgrees, State.reset_effectsTrack, State.reset_monitor_legal⟩,
      State.reset_monitorsTrack⟩) s t h hs

end Sys2Proof.Machine

/-!
PROOF. The inhibit outputs (obligation O59, second part): whatever changes one of the four sources of an inhibit resolves it
before the operation ends; the changed effects are the ones still to be handed on.
-/

namespace Sys2Proof.Machine

/-- The inhibit output of a port is at the level its four sources give (R166). -/
def State.InhibitResolved (s : State) (q : LaneId) (p : PortId) : Prop :=
  (s.inhibitOf q p).level = .on ↔
    (s.interlocks.conditions.get q).forced p = true ∨ (s.modes.get q).current.port p = false ∨
      (s.meter q p).holds = true ∨ (s.inhibitOf q p).host = .on

theorem State.inhibitsTrack_iff (s : State) : s.InhibitsTrack ↔ ∀ q p, s.InhibitResolved q p := Iff.rfl

theorem State.InhibitResolved.congr {s t : State} {q : LaneId} {p : PortId} (h : s.InhibitResolved q p)
    (output : t.inhibitOf q p = s.inhibitOf q p)
    (forced : (t.interlocks.conditions.get q).forced p = (s.interlocks.conditions.get q).forced p)
    (enabled : (t.modes.get q).current.port p = (s.modes.get q).current.port p)
    (holding : (t.meter q p).holds = (s.meter q p).holds) : t.InhibitResolved q p := by
  unfold State.InhibitResolved
  rw [output, forced, enabled, holding]
  exact h

/-- An update of none of the sources nor of the outputs. -/
theorem State.InhibitsTrack.congr {s t : State} (h : s.InhibitsTrack)
    (output : ∀ q p, t.inhibitOf q p = s.inhibitOf q p) (hi : t.interlocks.conditions = s.interlocks.conditions)
    (hm : t.modes = s.modes) (hh : t.meters = s.meters) : t.InhibitsTrack := fun q p =>
  State.InhibitResolved.congr (h q p) (output q p) (by rw [hi]) (by rw [hm]) (by unfold State.meter; rw [hh])

theorem inhibitLevel_on (forced enabled holding : Bool) (host : Level) :
    inhibitLevel forced enabled holding host = .on ↔
      forced = true ∨ enabled = false ∨ holding = true ∨ host = .on := by
  cases forced <;> cases enabled <;> cases holding <;> cases host <;> decide

theorem State.inhibitOf_resolveInhibit (s : State) (q r : LaneId) (p o : PortId) :
    (s.resolveInhibit q p).inhibitOf r o =
      if r = q ∧ o = p then
        { s.inhibitOf q p with
          level :=
            inhibitLevel ((s.interlocks.conditions.get q).forced p) ((s.modes.get q).current.port p)
              (s.meter q p).holds (s.inhibitOf q p).host }
      else s.inhibitOf r o := by
  unfold State.inhibitOf State.resolveInhibit
  simp only [State.withOutputs_outputs_get]
  by_cases lane : r = q
  · simp only [lane, if_true, Ports.get_set, true_and]
  · simp only [lane, if_false, false_and]

/-- Resolving an inhibit leaves it, and every other that was, at the level its sources give. -/
theorem State.resolveInhibit_resolved {s : State} {q r : LaneId} {p o : PortId}
    (h : ¬(r = q ∧ o = p) → s.InhibitResolved r o) : (s.resolveInhibit q p).InhibitResolved r o := by
  by_cases here : r = q ∧ o = p
  · obtain ⟨rfl, rfl⟩ := here
    unfold State.InhibitResolved
    rw [State.inhibitOf_resolveInhibit, if_pos ⟨rfl, rfl⟩]
    exact inhibitLevel_on _ _ _ _
  · exact (h here).congr (by rw [State.inhibitOf_resolveInhibit, if_neg here]) rfl rfl rfl

theorem State.InhibitsTrack.resolveInhibit {s : State} (h : s.InhibitsTrack) (q : LaneId) (p : PortId) :
    (s.resolveInhibit q p).InhibitsTrack := fun r o => State.resolveInhibit_resolved fun _ => h r o

/-! ## Effects handed on -/

/-- The effect that forces a port's inhibit. -/
def inhibitEffect : PortId → Effect
  | .a => .inhibitA
  | .b => .inhibitB

theorem EffectConditions.of_inhibitEffect (c : EffectConditions) (p : PortId) : c.of (inhibitEffect p) = c.forced p := by
  cases p <;> rfl

/-- Every inhibit is at the level its sources give, or its effect is still to be handed on. -/
def State.InhibitsOwed (l : List ((LaneId × Effect) × Bool)) (s : State) : Prop :=
  ∀ q p, s.InhibitResolved q p ∨ ∃ v, ((q, inhibitEffect p), v) ∈ l

/-- The other effects leave the inhibits as they are. -/
theorem State.inhibitOf_handEffect (s : State) {x : (LaneId × Effect) × Bool} (hx : ∀ p, x.1.2 ≠ inhibitEffect p)
    (r : LaneId) (o : PortId) : (s.handEffect x).inhibitOf r o = s.inhibitOf r o := by
  unfold State.handEffect
  split
  · split
    · exact State.inhibitOf_perform (s.withKeyboard _ _) _ _ _ _
    · rfl
  · rfl
  · split
    · exact State.inhibitOf_perform ({ s with arbiter := _ }.withDrawer _ _) _ _ _ _
    · rfl
  · rfl
  · exact absurd rfl (hx .a)
  · exact absurd rfl (hx .b)

theorem inhibitEffect_inj : ∀ {o p : PortId}, inhibitEffect o = inhibitEffect p → o = p
  | .a, .a, _ => rfl
  | .b, .b, _ => rfl

theorem State.handEffect_inhibit (s : State) (q : LaneId) (p : PortId) (v : Bool) :
    s.handEffect ((q, inhibitEffect p), v) = s.resolveInhibit q p := by
  cases p <;> rfl

theorem State.InhibitsOwed.handEffect (x : (LaneId × Effect) × Bool) (l : List ((LaneId × Effect) × Bool)) (s : State)
    (h : s.InhibitsOwed (x :: l)) : (s.handEffect x).InhibitsOwed l := by
  intro r o
  obtain ⟨⟨q, e⟩, v⟩ := x
  by_cases inhibit : ∃ p, e = inhibitEffect p
  · obtain ⟨p, rfl⟩ := inhibit
    rw [State.handEffect_inhibit]
    by_cases here : r = q ∧ o = p
    · exact Or.inl (State.resolveInhibit_resolved fun away => absurd here away)
    · rcases h r o with resolved | ⟨w, owed⟩
      · exact Or.inl (State.resolveInhibit_resolved fun _ => resolved)
      · rcases List.mem_cons.1 owed with same | later
        · exact absurd ⟨congrArg (·.1.1) same, inhibitEffect_inj (congrArg (·.1.2) same)⟩ here
        · exact Or.inr ⟨w, later⟩
  · have other : ∀ p, e ≠ inhibitEffect p := fun p here => inhibit ⟨p, here⟩
    obtain ⟨interlocks, modes, meters⟩ := s.handEffect_frame ((q, e), v)
    rcases h r o with resolved | ⟨w, owed⟩
    · exact Or.inl (resolved.congr (s.inhibitOf_handEffect other r o) (by rw [interlocks]) (by rw [modes])
        (by unfold State.meter; rw [meters]))
    · rcases List.mem_cons.1 owed with same | later
      · exact absurd (congrArg (·.1.2) same).symm (other o)
      · exact Or.inr ⟨w, later⟩

/-- The inhibits forced or released by a recomputation are resolved in it; the others have the sources they had. -/
theorem State.InhibitsTrack.refreshEffects {s : State} (h : s.InhibitsTrack) : s.refreshEffects.InhibitsTrack := by
  have owed : s.refreshEffects.InhibitsOwed [] := by
    rw [State.refreshEffects_eq]
    refine List.foldl_handEffect State.InhibitsOwed.handEffect _ _ fun q p => ?_
    by_cases same :
        (s.interlocks.conditions.get q).forced p = ((allConditions s.interlocks.monitors).get q).forced p
    · left
      obtain ⟨-, -, -, meters, -, -, interlocks, modes⟩ := State.inOrder_same s.recomputed s.changedEffects
      obtain ⟨modes', meters', -, -⟩ := s.recomputed_frame
      refine State.InhibitResolved.congr (h q p) ?_ ?_ (by rw [modes, modes']) ?_
      · rw [State.inhibitOf_inOrder]
        exact State.inhibitOf_resolveSignals _ q p
      · rw [interlocks, State.recomputed_interlocks, same]
      · unfold State.meter
        rw [meters, meters']
    · right
      refine ⟨((allConditions s.interlocks.monitors).get q).forced p, ?_⟩
      rw [State.mem_inOrder]
      refine (mem_effectChanges _ _ _ _ _).2 ?_
      rw [EffectConditions.of_inhibitEffect, EffectConditions.of_inhibitEffect]
      exact ⟨rfl, same⟩
  intro q p
  rcases owed q p with resolved | ⟨v, nothing⟩
  · exact resolved
  · exact absurd nothing List.not_mem_nil

/-! ## Every operation -/

theorem State.InhibitsTrack.produce {s : State} (h : s.InhibitsTrack) (q : LaneId) (t : Time) (b : EventBody) :
    (s.produce q t b).InhibitsTrack :=
  h.congr (fun _ _ => State.inhibitOf_produce _ _ _ _ _ _) (by rw [State.produce_interlocks])
    (State.produce_modes s q t b) (State.produce_meters s q t b)

theorem State.InhibitsTrack.perform {s : State} (h : s.InhibitsTrack) (q : LaneId) (l : List LaneEffect) :
    (s.perform q l).InhibitsTrack :=
  h.congr (fun _ _ => State.inhibitOf_perform _ _ _ _ _) (by rw [State.perform_interlocks]) (State.perform_modes s q l)
    (State.perform_meters s q l)

theorem State.InhibitsTrack.turnMonitor {s : State} (h : s.InhibitsTrack) (i : MonitorId) (t : Time)
    (r : Monitor × MonitorTurn) : (s.turnMonitor i t r).InhibitsTrack := by
  have turned : (s.withMonitor i r.1).InhibitsTrack := h
  unfold State.turnMonitor
  simp only
  split
  · exact turned
  · exact (turned.produce _ t _).refreshEffects
  · exact turned.refreshEffects.produce _ t _

theorem State.InhibitsTrack.rewriteMonitor {s : State} (h : s.InhibitsTrack) (i : MonitorId) (g : MonitorSettings) :
    (s.rewriteMonitor i g).InhibitsTrack := by
  have ended : (s.endMonitor i g.enabled).InhibitsTrack := by
    unfold State.endMonitor
    split
    · exact State.InhibitsTrack.produce (s := s.withMonitor i _) h _ _ _
    · exact h
  refine State.InhibitsTrack.refreshEffects ?_
  unfold State.beginMonitor
  simp only
  split
  · split
    · exact State.InhibitsTrack.produce (s := ((s.endMonitor i g.enabled).withMonitor i _).withMonitor i _) ended _ _ _
    · exact ended
  · exact ended

theorem State.InhibitsTrack.grantOne {s : State} (h : s.InhibitsTrack) : s.grantOne.InhibitsTrack := by
  unfold State.grantOne
  split <;> exact h

/-- An enable that is no port's leaves the inhibits alone. -/
theorem State.InhibitsTrack.withEnable {s : State} (h : s.InhibitsTrack) (q : LaneId) {x : Enable} (v : Bool)
    (hx : ∀ p, x ≠ .scan p) : (s.withEnable q x v).InhibitsTrack := fun r o =>
  State.InhibitResolved.congr (h r o) rfl rfl (s.port_enable_of_other q v hx r o) rfl

/-- A port's enable changes the sources of that port's inhibit only, which is resolved after it (R96, R166). -/
theorem State.InhibitsTrack.scanEnable {s t : State} (h : s.InhibitsTrack) (q : LaneId) (p : PortId) (v : Bool)
    (output : ∀ r o, t.inhibitOf r o = s.inhibitOf r o) (hi : t.interlocks = s.interlocks)
    (hm : t.modes = (s.withEnable q (.scan p) v).modes) (hh : t.meters = s.meters) :
    (t.resolveInhibit q p).InhibitsTrack := by
  intro r o
  refine State.resolveInhibit_resolved fun away =>
    State.InhibitResolved.congr (h r o) (output r o) (by rw [hi]) ?_ (by unfold State.meter; rw [hh])
  rw [hm, State.withEnable_current]
  split
  · rename_i lane
    rw [EnableSet.port_withEnable, if_neg]
    exact fun same => away ⟨lane, (Enable.scan.inj same).symm⟩
  · rfl

theorem State.InhibitsTrack.enabled {s : State} (h : s.InhibitsTrack) (q : LaneId) (x : Enable × Bool) :
    (State.handEnable q (s.withEnable q x.1 x.2) x).InhibitsTrack := by
  unfold State.handEnable
  split
  · exact h.withEnable q (x := .keyboard) true nofun
  · exact State.InhibitsTrack.perform (s := (s.withEnable q .keyboard false).withKeyboard q _)
      (h.withEnable q (x := .keyboard) false nofun) q _
  · exact h.scanEnable q _ true (fun _ _ => rfl) rfl rfl rfl
  · exact h.scanEnable q _ false (fun r o => State.inhibitOf_perform ((s.withEnable q _ false).withPort q _ _) _ _ _ _)
      (State.perform_interlocks ((s.withEnable q _ false).withPort q _ _) _ _)
      (State.perform_modes ((s.withEnable q _ false).withPort q _ _) _ _)
      (State.perform_meters ((s.withEnable q _ false).withPort q _ _) _ _)
  · exact (h.withEnable q (x := .drawer) true nofun).grantOne.grantOne
  · exact h.withEnable q (x := .drawer) false nofun

theorem State.inhibitsTrack_keptWeakly : KeptWeakly State.InhibitsTrack := by
  constructor
  case produced => exact fun s q t b h => h.produce q t b
  case signalled =>
    exact fun s q o f h => h.congr (fun _ _ => State.inhibitOf_updateSignal _ _ _ _ _ _) rfl rfl rfl
  case inhibited =>
    intro s q p l h r o
    refine State.resolveInhibit_resolved fun away => State.InhibitResolved.congr (h r o) ?_ rfl rfl rfl
    unfold State.inhibitOf
    rw [State.withOutputs_outputs_get]
    split
    · rename_i lane
      rw [Ports.get_set, if_neg fun port => away ⟨lane, port⟩, lane]
    · rfl
  case metered =>
    intro s q p m hm h r o
    refine State.InhibitResolved.congr (h r o) rfl rfl rfl ?_
    rw [State.meter_withMeter]
    split
    · rename_i here
      rw [here.1, here.2, hm]
    · rfl
  case held =>
    intro s q p m h r o
    refine State.resolveInhibit_resolved fun away => State.InhibitResolved.congr (h r o) rfl rfl rfl ?_
    rw [State.meter_withMeter, if_neg away]
  case tookChange => exact fun s i _ h => h.turnMonitor i _ _
  case qualified => exact fun s i t _ h => h.turnMonitor i _ _
  case letGo => exact fun s i _ _ h => h.turnMonitor i _ _
  case rewrote => exact fun s i g h => h.rewriteMonitor i g
  case enabled => exact fun s q x h => h.enabled q x
  case moded =>
    intro s q m hm h r o
    exact State.InhibitResolved.congr (h r o) rfl rfl (congrArg (EnableSet.port · o) (s.moded_current q r hm)) rfl
  case granted => exact fun s h => h.grantOne
  all_goals intros; assumption

/-- Settles O59: the monitors stay legal and their effects theirs within a command, and settling ends it; the inhibits
are resolved with each change of a source. -/
theorem monitorsKept : Obligations.MonitorsKept := by
  refine ⟨fun s t drive tracks effects legal hs => ?_, fun s t h hs => ?_⟩
  · obtain ⟨⟨-, effects', legal'⟩, tracks'⟩ :=
      State.MonitorsSettled.step (s := s) ⟨⟨drive, effects, legal⟩, tracks⟩ hs
    exact ⟨tracks', effects', legal'⟩
  · exact step_keeps_strongly State.inhibitsTrack_keptWeakly.strongly (fun _ h => h) (fun _ _ h => h)
      (fun _ _ _ _ => State.reset_inhibitsTrack) s t h hs

end Sys2Proof.Machine

/-!
PROOF. The Link Controller (obligations O5 to O9): the reset of the part, the receiver, the taking of requests and the
sending of frames.
-/

namespace Sys2Proof.Machine

/-! ## The reset of the part (R198) -/

theorem exec_resetPart (tag : Byte) (b : List Byte) (s : State) :
    exec (.resetPart tag b) s = .next (s.takeWith 0x03 tag b resetPartRule) := rfl

theorem resetPartRule_length (tag : Byte) (b : List Byte) (s : State) (h : b.length ≠ 0) :
    resetPartRule tag b s = refuse s .badArgument := if_pos h

theorem exec_resetPartDrained_sending (straps : BitVec 2) {s : State} {m : Message} (resetting : s.link.resetting = true)
    (last : s.link.transmit = [m]) :
    exec (.resetPartDrained straps) s =
      .next { (s.partReset .request straps) with
        link := { (s.partReset .request straps).link with hostLine := m.bytes } } := by
  show execResetPartDrained straps s = _
  unfold execResetPartDrained
  rw [resetting, last]

theorem exec_resetPartDrained_empty (straps : BitVec 2) {s : State} (resetting : s.link.resetting = true)
    (empty : s.link.transmit = []) : exec (.resetPartDrained straps) s = .next (s.partReset .request straps) := by
  show execResetPartDrained straps s = _
  unfold execResetPartDrained
  rw [resetting, empty]

theorem exec_resetPartDrained_early (straps : BitVec 2) {s : State}
    (h : s.link.resetting = false ∨ 2 ≤ s.link.transmit.length) : exec (.resetPartDrained straps) s = .next s := by
  show execResetPartDrained straps s = _
  unfold execResetPartDrained
  split
  · rename_i resetting empty
    rw [resetting, empty] at h
    exact absurd h (by decide)
  · rename_i m resetting last
    rw [resetting, last] at h
    exact absurd h (by simp)
  · rfl

/-- Settles O5: the request only marks the reset; the command that finds the transmit path drained makes it. -/
theorem resetPart : Obligations.ResetPart :=
  ⟨⟨wrongLengthRefused_of_rule exec_resetPart resetPartRule_length, fun _ _ ht => exec_of_rule exec_resetPart ht rfl⟩,
    fun straps _ _ resetting last => exec_resetPartDrained_sending straps resetting last,
    fun straps _ resetting empty => exec_resetPartDrained_empty straps resetting empty,
    fun straps _ early => exec_resetPartDrained_early straps early⟩

/-! ## A byte on the host line (R187) -/

/-- The state after a byte on the host line. -/
def State.hostByte (s : State) (v : Byte) : State :=
  match s.link.receiver with
  | .off => s
  | .hunting => s.huntByte v
  | .inFrame l last => if linkGap + 1 < elapsed s.time last then s.dropGap.huntByte v else s.frameByte l v

theorem exec_hostByteReceived (v : Byte) (s : State) : exec (.hostByteReceived v) s = .next (s.hostByte v) := rfl

theorem State.hostByte_off {s : State} (v : Byte) (h : s.link.receiver = .off) : s.hostByte v = s := by
  unfold State.hostByte
  rw [h]

theorem State.hostByte_hunting {s : State} (v : Byte) (h : s.link.receiver = .hunting) :
    s.hostByte v = s.huntByte v := by
  unfold State.hostByte
  rw [h]

theorem State.hostByte_inFrame {s : State} {l : List Byte} {last : Time} (v : Byte)
    (h : s.link.receiver = .inFrame l last) (inTime : elapsed s.time last ≤ 11) : s.hostByte v = s.frameByte l v := by
  unfold State.hostByte
  rw [h]
  exact if_neg (Nat.not_lt.2 inTime)

theorem State.hostByte_late {s : State} {l : List Byte} {last : Time} (v : Byte)
    (h : s.link.receiver = .inFrame l last) (late : 11 < elapsed s.time last) :
    s.hostByte v = s.dropGap.huntByte v := by
  unfold State.hostByte
  rw [h]
  exact if_pos late

/-! ## A byte of a frame (R185, R186) -/

/-- The receiver stands in a frame with the bytes it has so far, the last of them now. -/
def State.holding (s : State) (l : List Byte) : State :=
  { s with link := { s.link with receiver := .inFrame l s.time } }

@[simp] theorem frameLength_cons (n : Byte) (l : List Byte) : frameLength (n :: l) = n.toNat := rfl

/-- A length byte that no frame has. -/
theorem State.frameByte_length (s : State) (v : Byte) :
    s.frameByte [] v =
      if v.toNat < 2 then s.toHunting fun c => { c with badCrc := c.badCrc + 1 }
      else s.holding [v] := by
  unfold State.frameByte
  simp only [List.nil_append, frameLength_cons, List.length_singleton]
  split
  · rfl
  · rw [if_pos (by omega)]
    rfl

/-- A byte that does not end its frame. -/
theorem State.frameByte_more (s : State) {n : Byte} {l : List Byte} (v : Byte) (two : 2 ≤ n.toNat)
    (more : l.length + 2 < n.toNat + 3) :
    s.frameByte (n :: l) v = s.holding (n :: l ++ [v]) := by
  unfold State.frameByte
  simp only [List.cons_append, frameLength_cons, List.length_cons, List.length_append]
  rw [if_neg (by omega), if_pos (by omega)]
  rfl

/-- The two bytes at the end of a run. -/
theorem halfAt_append (l : List Byte) (c v : Byte) : halfAt (l ++ [c, v]) l.length = c ++ v := by
  simp [halfAt, byteAt, List.getD_eq_getElem?_getD]

/-- The check of a frame is over all of it but its last two bytes, which are the check. -/
theorem frameChecks_iff {n : Byte} {l : List Byte} (c v : Byte) (whole : l.length = n.toNat) :
    frameChecks (n :: l ++ [c] ++ [v]) = true ↔ crc16 (n :: l) = c ++ v := by
  have covered : (n :: l ++ [c, v]).take (n.toNat + 1) = n :: l := List.take_left' (by rw [← whole]; rfl)
  have check : halfAt (n :: l ++ [c, v]) (n.toNat + 1) = c ++ v := by
    rw [← whole]
    exact halfAt_append (n :: l) c v
  unfold frameChecks
  rw [List.append_assoc, List.singleton_append, List.cons_append, frameLength_cons, ← List.cons_append, covered, check,
    beq_iff_eq]

/-- The last byte of a frame. -/
theorem State.frameByte_last (s : State) {n c : Byte} {l : List Byte} (v : Byte) (two : 2 ≤ n.toNat)
    (whole : l.length = n.toNat) :
    s.frameByte (n :: l ++ [c]) v =
      if frameChecks (n :: l ++ [c] ++ [v]) then
        (s.toHunting fun k => { k with goodFrames := k.goodFrames + 1 }).offerFrame
          (frameRequest (n :: l ++ [c] ++ [v]))
      else s.toHunting fun k => { k with badCrc := k.badCrc + 1 } := by
  unfold State.frameByte
  simp only [List.cons_append, frameLength_cons]
  rw [if_neg (by omega), if_neg (by simp only [List.length_cons, List.length_append, List.length_nil]; omega)]

theorem State.frameByte_badCheck (s : State) {n c v : Byte} {l : List Byte} (two : 2 ≤ n.toNat)
    (whole : l.length = n.toNat) (wrong : crc16 (n :: l) ≠ c ++ v) :
    s.frameByte (n :: l ++ [c]) v = s.toHunting fun k => { k with badCrc := k.badCrc + 1 } := by
  rw [s.frameByte_last v two whole, if_neg (mt (frameChecks_iff c v whole).1 wrong)]

/-- The request of a whole frame. -/
theorem frameRequest_eq {n : Byte} (tag kind c v : Byte) {body : List Byte} (whole : body.length + 2 = n.toNat) :
    frameRequest (n :: tag :: kind :: body ++ [c] ++ [v]) = { tag := tag, kind := kind, body := body } := by
  have length : n.toNat - 2 = body.length := by omega
  simp only [frameRequest, List.cons_append, frameLength_cons, byteAt_succ, byteAt_zero, List.drop_succ_cons,
    List.drop_zero, length, List.append_assoc, List.take_left]

/-- The last byte of a frame whose check holds hands its request on (R186, R188). -/
theorem State.frameByte_goodCheck (s : State) {n c v tag kind : Byte} {body : List Byte}
    (whole : body.length + 2 = n.toNat) (right : crc16 (n :: tag :: kind :: body) = c ++ v) :
    s.frameByte (n :: tag :: kind :: body ++ [c]) v =
      (s.toHunting fun k => { k with goodFrames := k.goodFrames + 1 }).offerFrame
        { tag := tag, kind := kind, body := body } := by
  have whole' : (tag :: kind :: body).length = n.toNat := whole
  rw [s.frameByte_last v (by omega) whole', if_pos ((frameChecks_iff c v whole').2 right),
    frameRequest_eq tag kind c v whole]

/-! ## The receive buffer (R188) -/

theorem State.offerFrame_room {s : State} (f : RequestFrame) (room : s.link.buffer.length < 4) :
    s.offerFrame f = { s with link := { s.link with buffer := s.link.buffer ++ [f] } } := if_pos room

theorem State.offerFrame_full {s : State} (f : RequestFrame) (full : 4 ≤ s.link.buffer.length) :
    s.offerFrame f =
      { s with
        link :=
          { s.link with
            counters := { s.link.counters with overrun := s.link.counters.overrun + 1 }
            transmit :=
              if s.link.overruns < 8 then
                s.link.transmit ++
                  [{ tag := f.tag, kind := 0x80, body := 14 :: f.kind :: s.refusalFields f.kind f.body,
                     origin := .overrun }]
              else s.link.transmit } } := by
  refine (if_neg (Nat.not_lt.2 full)).trans ?_
  by_cases few : s.link.overruns < 8
  · rw [if_pos few]
    exact if_pos few
  · rw [if_neg few]
    exact if_neg few

/-! ## The gap timer (R187) -/

theorem exec_linkGapExpiry_inFrame {s : State} {l : List Byte} {last : Time}
    (h : s.link.receiver = .inFrame l last) :
    exec .linkGapExpiry s = .next (if 10 < elapsed s.time last then s.dropGap else s) := by
  show execLinkGapExpiry s = _
  unfold execLinkGapExpiry
  rw [h]
  rfl

theorem exec_linkGapExpiry_idle {s : State} (h : s.link.receiver = .hunting ∨ s.link.receiver = .off) :
    exec .linkGapExpiry s = .next s := by
  show execLinkGapExpiry s = _
  unfold execLinkGapExpiry
  rcases h with h | h <;> rw [h]

/-- Settles O7: by the position of the receiver, and in a frame by the number of its bytes. -/
theorem hostBytes : Obligations.HostBytes := by
  refine ⟨⟨fun v s off => ?_, fun v s hunting => ?_, fun v last s at0 inTime => ?_,
    fun v n l last s inside two inTime more => ?_, fun v n c l last s inside two inTime whole wrong => ?_,
    fun v n c tag kind body last k s inside inTime whole right hk => ⟨fun room => ?_, fun full => ?_⟩,
    fun v l last s inside late => ?_⟩,
    fun l last s inside late => ?_, fun l last s inside inTime => ?_, fun s idle => exec_linkGapExpiry_idle idle⟩
  · rw [exec_hostByteReceived, State.hostByte_off v off]
  · rw [exec_hostByteReceived, State.hostByte_hunting v hunting, State.huntByte]
  · rw [exec_hostByteReceived, State.hostByte_inFrame v at0 inTime, State.frameByte_length]
    rfl
  · rw [exec_hostByteReceived, State.hostByte_inFrame v inside inTime, s.frameByte_more v two more]
    rfl
  · rw [exec_hostByteReceived, State.hostByte_inFrame v inside inTime, s.frameByte_badCheck two whole wrong]
    rfl
  · rw [exec_hostByteReceived, State.hostByte_inFrame v inside inTime, s.frameByte_goodCheck whole right,
      State.offerFrame_room (s := s.toHunting _) _ room, hk]
    rfl
  · rw [exec_hostByteReceived, State.hostByte_inFrame v inside inTime, s.frameByte_goodCheck whole right,
      State.offerFrame_full (s := s.toHunting _) _ full, hk]
    rfl
  · rw [exec_hostByteReceived, State.hostByte_late v inside late, State.huntByte]
    by_cases start : v = 0xC3
    · rw [if_pos start, if_pos start]
      rfl
    · rw [if_neg start, if_neg start]
      rfl
  · rw [exec_linkGapExpiry_inFrame inside, if_pos late]
    rfl
  · rw [exec_linkGapExpiry_inFrame inside, if_neg (Nat.not_lt.2 inTime)]

/-! ## A whole frame (R185 to R188) -/

theorem receiveBytes_eq : ∀ (l : List Byte) (s : State), receiveBytes l s = .next (l.foldl State.hostByte s)
  | [], _ => rfl
  | v :: l, s => receiveBytes_eq l (s.hostByte v)

theorem elapsed_self (t : Time) : elapsed t t = 0 := by simp [elapsed]

/-- A byte that comes at once continues its frame. -/
theorem State.hostByte_holding (s : State) (l : List Byte) (v : Byte) :
    (s.holding l).hostByte v = (s.holding l).frameByte l v := by
  refine State.hostByte_inFrame v rfl ?_
  show elapsed s.time s.time ≤ 11
  rw [elapsed_self]
  decide

/-- The bytes of a frame that do not end it stand in the receiver. -/
theorem State.foldl_hostByte_holding {n : Byte} (two : 2 ≤ n.toNat) (s : State) : ∀ l g : List Byte,
    g.length + l.length < n.toNat + 2 → l.foldl State.hostByte (s.holding (n :: g)) = s.holding (n :: g ++ l)
  | [], g, _ => by rw [List.append_nil]; rfl
  | v :: l, g, more => by
    rw [List.length_cons] at more
    rw [List.foldl_cons, State.hostByte_holding, State.frameByte_more _ v two (by omega)]
    refine (State.foldl_hostByte_holding two s l (g ++ [v]) ?_).trans ?_
    · rw [List.length_append, List.length_singleton]
      omega
    · rw [List.cons_append, List.cons_append, List.append_assoc, List.singleton_append]

/-- The bytes of a frame, up to the last, stand in the receiver; the last one hands the request on. -/
theorem receiveBytes_frameBytes {s : State} (tag kind : Byte) {body : List Byte} (fits : body.length ≤ 253)
    (hunting : s.link.receiver = .hunting) :
    receiveBytes (frameBytes tag kind body) s =
      .next ((s.toHunting fun k => { k with goodFrames := k.goodFrames + 1 }).offerFrame
        { tag := tag, kind := kind, body := body }) := by
  have length : (BitVec.ofNat 8 (body.length + 2)).toNat = body.length + 2 := by
    rw [BitVec.toNat_ofNat]
    omega
  obtain ⟨n, hn⟩ : ∃ n : Byte, n = BitVec.ofNat 8 (body.length + 2) := ⟨_, rfl⟩
  obtain ⟨check, hcheck⟩ : ∃ h : Half, h = crc16 (n :: tag :: kind :: body) := ⟨_, rfl⟩
  rw [← hn] at length
  have bytes : frameBytes tag kind body =
      0xC3 :: n :: (tag :: kind :: body ++ [check.extractLsb' 8 8]) ++ [check.extractLsb' 0 8] := by
    simp only [frameBytes, frameCore, halfBytes, ← hn, ← hcheck, List.cons_append, List.append_assoc, List.nil_append]
  have start : s.hostByte 0xC3 = s.holding [] := by
    rw [State.hostByte_hunting _ hunting, State.huntByte, if_pos rfl]
    rfl
  have first : (s.holding []).hostByte n = s.holding [n] := by
    rw [State.hostByte_holding, State.frameByte_length, if_neg (by omega)]
    rfl
  have right : crc16 (n :: tag :: kind :: body) = check.extractLsb' 8 8 ++ check.extractLsb' 0 8 := by
    rw [halfBytes_append, ← hcheck]
  have gathered : (0xC3 :: n :: (tag :: kind :: body ++ [check.extractLsb' 8 8])).foldl State.hostByte s =
      s.holding (n :: (tag :: kind :: body ++ [check.extractLsb' 8 8])) := by
    rw [List.foldl_cons, start, List.foldl_cons, first]
    refine State.foldl_hostByte_holding (by omega) s _ [] ?_
    simp only [List.length_cons, List.length_append, List.length_nil]
    omega
  rw [receiveBytes_eq, bytes, List.foldl_append, gathered, List.foldl_cons, List.foldl_nil, State.hostByte_holding]
  exact congrArg Host.Outcome.next (State.frameByte_goodCheck _ length.symm right)

theorem State.toHunting_of_hunting {s : State} (hunting : s.link.receiver = .hunting)
    (f : LinkCounters → LinkCounters) : s.toHunting f = { s with link := s.link.count f } := by
  unfold State.toHunting Link.count
  rw [← hunting]

/-- Settles O6: a frame's bytes gather in the receiver, and the last one hands its request to the receive buffer. -/
theorem frameReceivedWhole : Obligations.FrameReceivedWhole := by
  refine ⟨fun tag kind body s fits hunting room => ?_, fun tag kind body s fits hunting full => ?_,
    Tests.test_crc⟩
  · rw [receiveBytes_frameBytes tag kind fits hunting, State.toHunting_of_hunting hunting,
      State.offerFrame_room (s := { s with link := s.link.count _ }) _ room]
    rfl
  · rw [receiveBytes_frameBytes tag kind fits hunting, State.toHunting_of_hunting hunting,
      State.offerFrame_full (s := { s with link := s.link.count _ }) _ full]
    rfl

/-! ## Taking a request (R189) -/

theorem eq_ofNat_of_toNat {k : Byte} {n : Nat} (h : k.toNat = n) : k = BitVec.ofNat 8 n := by
  rw [← h, BitVec.ofNat_toNat, BitVec.setWidth_eq]

/-- The command of a request carries out the rule of its kind. -/
theorem requestCommand_eq_some {kind tag : Byte} {b : List Byte} {c : Instr} (h : requestCommand kind tag b = some c) :
    ∃ rule, requestRule kind = some rule ∧ ∀ s, exec c s = .next (s.takeWith kind tag b rule) := by
  unfold requestCommand at h
  split at h
  case h_35 => exact nomatch h
  all_goals
    rename_i code
    obtain rfl := eq_ofNat_of_toNat code
    obtain rfl := Option.some.inj h
    exact ⟨_, rfl, fun _ => rfl⟩

/-- A kind that names no command has no rule. -/
theorem requestRule_eq_none {kind tag : Byte} {b : List Byte} (h : requestCommand kind tag b = none) :
    requestRule kind = none := by
  unfold requestCommand at h
  split at h
  case h_35 =>
    unfold requestRule
    split
    case h_35 => rfl
    all_goals contradiction
  all_goals exact nomatch h

theorem Link.mayTake_eq_false {l : Link} {m : Message} (unsent : m ∈ l.transmit)
    (waits : m.origin = .taken ∨ m.origin = .started) : l.mayTake = false := by
  unfold Link.mayTake
  rw [List.all_eq_false]
  refine ⟨m, unsent, ?_⟩
  rcases waits with h | h <;> simp [h]

theorem Link.mayTake_eq_true {l : Link} (sent : ∀ m ∈ l.transmit, m.origin ≠ .taken ∧ m.origin ≠ .started) :
    l.mayTake = true := by
  unfold Link.mayTake
  rw [List.all_eq_true]
  intro m hm
  simpa using sent m hm

theorem exec_takeRequest_empty {s : State} (h : s.link.buffer = []) : exec .takeRequest s = .next s := by
  show execTakeRequest s = _
  unfold execTakeRequest
  rw [h]

theorem exec_takeRequest_cons {s : State} {f : RequestFrame} {l : List RequestFrame} (h : s.link.buffer = f :: l) :
    exec .takeRequest s =
      .next (if s.link.mayTake then { s with link := { s.link with buffer := l } }.takeFrame f else s) := by
  show execTakeRequest s = _
  unfold execTakeRequest
  rw [h]

theorem exec_takeRequest_held {s : State} {m : Message} (unsent : m ∈ s.link.transmit)
    (waits : m.origin = .taken ∨ m.origin = .started) : exec .takeRequest s = .next s := by
  cases h : s.link.buffer with
  | nil => exact exec_takeRequest_empty h
  | cons f l => rw [exec_takeRequest_cons h, Link.mayTake_eq_false unsent waits, if_neg Bool.false_ne_true]

theorem State.takeWith_zero (s : State) (kind : Byte) (b : List Byte)
    (rule : Byte → List Byte → State → State × Answer) :
    s.takeWith kind 0 b rule = s.replied 0 kind .badArgument (s.refusalFields kind b) := if_pos rfl

theorem State.refusalFields_eq_nil (s : State) {kind : Byte} (b : List Byte) (notAwait : kind ≠ 0x16)
    (notOpen : kind ≠ 0x19) : s.refusalFields kind b = [] :=
  (if_neg notAwait).trans (if_neg notOpen)

/-- A frame of a kind that names no request (R189 tests 1 and 2). -/
theorem State.takeFrame_unknown (s : State) {f : RequestFrame} (unknown : requestCommand f.kind f.tag f.body = none) :
    s.takeFrame f =
      if f.tag = 0 then s.replied 0 f.kind .badArgument []
      else
        { s with
          link :=
            { s.link with
              counters := { s.link.counters with unknownKind := s.link.counters.unknownKind + 1 } } }.replied
          f.tag f.kind .unknownKind [] := by
  have notAwait : f.kind ≠ 0x16 := fun h => by rw [h] at unknown; exact nomatch unknown
  have notOpen : f.kind ≠ 0x19 := fun h => by rw [h] at unknown; exact nomatch unknown
  unfold State.takeFrame
  rw [requestRule_eq_none unknown, Option.getD_none]
  by_cases zero : f.tag = 0
  · rw [if_pos zero, zero, State.takeWith_zero, s.refusalFields_eq_nil f.body notAwait notOpen]
  · rw [if_neg zero, State.takeWith_of_ne _ _ zero, unknownKindRule, State.answer_refuse]
    rfl

/-- Settles O8: a command for a request and the frame that carries it run the rule of one kind. -/
theorem requestTaken : Obligations.RequestTaken := by
  refine ⟨⟨fun kind body c s hc => ?_, fun kind body s => s.refusalFields_eq_nil body,
    fun body s => ⟨rfl, rfl⟩⟩,
    fun s empty => exec_takeRequest_empty empty, fun s m unsent waits => exec_takeRequest_held unsent waits,
    fun s f l c front sent hc => ?_, fun s f l front sent unknown => ?_⟩
  · obtain ⟨rule, -, run⟩ := requestCommand_eq_some hc
    rw [run, State.takeWith_zero]
  · obtain ⟨rule, hr, run⟩ := requestCommand_eq_some hc
    rw [exec_takeRequest_cons front, Link.mayTake_eq_true sent, if_pos rfl, run, State.takeFrame, hr, Option.getD_some]
  · rw [exec_takeRequest_cons front, Link.mayTake_eq_true sent, if_pos rfl, State.takeFrame_unknown _ unknown]

/-! ## Sending (R190, R191) -/

theorem exec_frameSent_empty {s : State} (h : s.link.transmit = []) : exec .frameSent s = .next s := by
  show execFrameSent s = _
  unfold execFrameSent
  rw [h]

theorem exec_frameSent_cons {s : State} {m : Message} {l : List Message} (h : s.link.transmit = m :: l) :
    exec .frameSent s =
      .next (if s.link.resetting ∧ l = [] then s
        else { s with link := { s.link with transmit := l, hostLine := m.bytes } }) := by
  show execFrameSent s = _
  unfold execFrameSent
  rw [h]

theorem EventStore.occBytes_eq (st : EventStore) :
    st.occBytes = num2 (st.occ 0) ++ num2 (st.occ 1) ++ num2 (st.occ 2) ++ num2 (st.occ 3) := rfl

/-- Settles O9: the two sending commands, by their guards. -/
theorem sending : Obligations.Sending := by
  refine ⟨⟨fun s empty => exec_frameSent_empty empty, fun s m l front goes => ?_, fun s m last resetting => ?_⟩,
    fun s idle lanes stays => ?_, fun s kept => ?_⟩
  · rw [exec_frameSent_cons front, if_neg]
    · rfl
    · rintro ⟨resetting, last⟩
      rcases goes with stays | more
      · exact absurd (stays.symm.trans resetting) nofun
      · exact more last
  · rw [exec_frameSent_cons last, if_pos ⟨resetting, rfl⟩]
  · show execReadyNotice s = _
    unfold execReadyNotice
    rw [if_pos ⟨idle, lanes, Bool.eq_false_iff.1 stays⟩, State.readyNotice, EventStore.occBytes_eq]
    rfl
  · refine congrArg Host.Outcome.next (if_neg ?_)
    rintro ⟨idle, lanes, stays⟩
    rcases kept with busy | none | resetting
    · exact busy idle
    · exact lanes none
    · exact stays resetting

end Sys2Proof.Machine

/-!
PROOF. The admission of events and its settings (obligations O12, O14, O16): the tests of R5 one by one, what an admission
hands on, and SET_ADMISSION.
-/

namespace Sys2Proof.Machine

/-! ## The tests of R5 -/

theorem EventStore.laneFull_iff (st : EventStore) (q : LaneId) (c : EventClass) :
    st.laneFull q c = true ↔ ∃ l, st.laneLimits.of c = some l ∧ l ≤ st.occ q := by
  unfold EventStore.laneFull
  cases st.laneLimits.of c <;> simp

theorem EventStore.laneFull_eq_false (st : EventStore) (q : LaneId) (c : EventClass) :
    st.laneFull q c = false ↔ ∀ l, st.laneLimits.of c = some l → st.occ q < l := by
  unfold EventStore.laneFull
  cases st.laneLimits.of c <;> simp

theorem EventStore.poolOpen_iff (st : EventStore) (c : EventClass) :
    st.poolOpen c = true ↔
      st.sharedUsage < st.poolSize ∧ ∀ l, st.sharedLimits.of c = some l → st.sharedUsage < l := by
  unfold EventStore.poolOpen
  cases st.sharedLimits.of c <;> simp

theorem EventStore.poolOpen_eq_false (st : EventStore) (c : EventClass) :
    st.poolOpen c = false ↔
      st.poolSize ≤ st.sharedUsage ∨ ∃ l, st.sharedLimits.of c = some l ∧ l ≤ st.sharedUsage := by
  rw [Bool.eq_false_iff, Ne, EventStore.poolOpen_iff, not_and_or, Nat.not_lt]
  push Not
  rfl

theorem evictYoungest_isSome_iff : ∀ l : List EventRecord,
    (evictYoungest l).isSome = true ↔ ∃ r ∈ l, r.event.cls ≠ .critical
  | [] => by simp [evictYoungest]
  | r :: l => by
    have ih := evictYoungest_isSome_iff l
    rw [List.exists_mem_cons_iff, ← ih]
    cases he : evictYoungest l with
    | some x => simp [evictYoungest, he]
    | none =>
      by_cases critical : r.event.cls = .critical
      · simp [evictYoungest, he, critical]
      · cases l <;> simp_all [evictYoungest]

section
variable {st : EventStore} {q : LaneId} {e : Event} (redirected : Bool)

theorem EventStore.offer_of_refuse (h : st.verdict q e.cls = .refuse) :
    st.offer q e redirected = (st.withQueue q ((st.queues.get q).refuse e.cls), false) := by
  unfold EventStore.offer
  rw [h]

theorem EventStore.offer_of_room (h : st.verdict q e.cls = .intoReserve ∨ st.verdict q e.cls = .intoPool) :
    st.offer q e redirected = (st.withQueue q ((st.queues.get q).admitEvent e redirected), true) := by
  unfold EventStore.offer
  rcases h with h | h <;> rw [h]

theorem EventStore.offer_of_eviction (h : st.verdict q e.cls = .byEviction) :
    st.offer q e redirected = (st.withQueue q ((st.queues.get q).evict.admitEvent e redirected), true) := by
  unfold EventStore.offer
  rw [h]

end

section
variable {st : EventStore} {q : LaneId} {c : EventClass}

theorem EventStore.verdict_laneFull (h : st.laneFull q c = true) : st.verdict q c = .refuse := if_pos h

theorem EventStore.verdict_reserve (h1 : st.laneFull q c = false) (h2 : st.occ q < (st.queues.get q).reserve) :
    st.verdict q c = .intoReserve := by
  rw [EventStore.verdict, if_neg (Bool.eq_false_iff.1 h1), if_pos h2]

theorem EventStore.verdict_beyond (h1 : st.laneFull q c = false) (h2 : (st.queues.get q).reserve ≤ st.occ q) :
    st.verdict q c =
      if st.poolOpen c then .intoPool
      else if c = .critical ∧ (evictYoungest (st.queues.get q).events).isSome then .byEviction else .refuse := by
  rw [EventStore.verdict, if_neg (Bool.eq_false_iff.1 h1), if_neg (Nat.not_lt.2 h2)]

end

theorem LaneQueue.admitEvent_eq (x : LaneQueue) (e : Event) (redirected : Bool) :
    x.admitEvent e redirected =
      { x with
        events := x.events ++ [{ event := e, sequence := x.nextSequence, lostBefore := x.lost }]
        nextSequence := x.nextSequence + 1
        lost := 0
        counters :=
          { x.counters with
            admitted := x.counters.admitted + 1
            redirectedIn := if redirected then x.counters.redirectedIn + 1 else x.counters.redirectedIn } } := by
  unfold LaneQueue.admitEvent
  cases redirected <;> simp

/-- Settles O12: the verdict is the first of the five tests that decides, and each verdict names its update. -/
theorem admission : Obligations.Admission := by
  refine ⟨fun st q e redirected x hx => ?_, fun x c => by cases c <;> rfl, LaneQueue.admitEvent_eq⟩
  subst hx
  refine ⟨fun full => ?_, fun notFull => ?_⟩
  · exact EventStore.offer_of_refuse redirected (EventStore.verdict_laneFull ((st.laneFull_iff q e.cls).2 full))
  · have open1 := (st.laneFull_eq_false q e.cls).2 notFull
    refine ⟨fun within => EventStore.offer_of_room redirected (Or.inl (EventStore.verdict_reserve open1 within)),
      fun beyond => ⟨fun room below => ?_, fun shut => ?_⟩⟩
    · have pool := (st.poolOpen_iff e.cls).2 ⟨room, below⟩
      refine EventStore.offer_of_room redirected (Or.inr ?_)
      rw [EventStore.verdict_beyond open1 beyond, if_pos pool]
    · have pool := Bool.eq_false_iff.1 ((st.poolOpen_eq_false e.cls).2 shut)
      refine ⟨fun critical evictable => ?_, fun kept => ?_⟩
      · refine EventStore.offer_of_eviction redirected ?_
        rw [EventStore.verdict_beyond open1 beyond, if_neg pool,
          if_pos ⟨critical, (evictYoungest_isSome_iff _).2 evictable⟩]
      · refine EventStore.offer_of_refuse redirected ?_
        rw [EventStore.verdict_beyond open1 beyond, if_neg pool, if_neg]
        rintro ⟨critical, evictable⟩
        obtain ⟨r, held, other⟩ := (evictYoungest_isSome_iff _).1 evictable
        exact kept.elim (fun h => h critical) fun all => other (all r held)

/-! ## What an admission hands on (R12) -/

@[simp] theorem LaneQueue.evict_wait (x : LaneQueue) : x.evict.wait = x.wait := by
  unfold LaneQueue.evict
  split <;> rfl

@[simp] theorem LaneQueue.evict_watermark (x : LaneQueue) : x.evict.watermark = x.watermark := by
  unfold LaneQueue.evict
  split <;> rfl

/-- An offer leaves the lane's wait and watermark. -/
theorem EventStore.offer_wait_watermark {st st' : EventStore} {q : LaneId} {e : Event} {redirected admitted : Bool}
    (h : st.offer q e redirected = (st', admitted)) :
    (st'.queues.get q).wait = (st.queues.get q).wait ∧ (st'.queues.get q).watermark = (st.queues.get q).watermark := by
  unfold EventStore.offer at h
  cases hv : st.verdict q e.cls <;> simp only [hv, Prod.mk.injEq] at h <;> obtain ⟨rfl, -⟩ := h <;>
    simp [EventStore.withQueue, LaneQueue.admitEvent, LaneQueue.refuse]

theorem State.testWait_none {s : State} {q : LaneId} (src : Source) (n : Half)
    (h : ∀ w, (s.store.queues.get q).wait = some w → w.sources.getLsbD src.index = false) :
    s.testWait q src n = s := by
  unfold State.testWait
  split
  · rename_i w hw
    exact if_neg (Bool.eq_false_iff.1 (h w hw))
  · rfl

theorem State.testWait_some {s : State} {q : LaneId} {w : Wait} {src : Source} (n : Half)
    (hw : (s.store.queues.get q).wait = some w) (h : w.sources.getLsbD src.index = true) :
    s.testWait q src n = s.completeWait q w (carriedOut (!w.clamped)) n 0 := by
  unfold State.testWait
  rw [hw]
  exact if_pos h

/-- A tested wait is completed or not: the queue's events and watermark stay, and the link only sends. -/
theorem State.testWait_frame (s : State) (q : LaneId) (src : Source) (n : Half) :
    (∃ st l, s.testWait q src n = { s with store := st, link := { s.link with transmit := l } }) ∧
      (s.testWait q src n).store.occ q = s.store.occ q ∧
      ((s.testWait q src n).store.queues.get q).watermark = (s.store.queues.get q).watermark := by
  unfold State.testWait
  split
  · split
    · exact ⟨⟨_, _, rfl⟩, EventStore.occ_setWait _ _ _ _, by simp [State.completeWait, EventStore.setWait,
        EventStore.withQueue]⟩
    · exact ⟨⟨s.store, s.link.transmit, rfl⟩, rfl, rfl⟩
  · exact ⟨⟨s.store, s.link.transmit, rfl⟩, rfl, rfl⟩

/-- Joining the READY-pending set is all that markReady can do (R13). -/
theorem State.markReady_eq (s : State) (q : LaneId) (before : Nat) :
    s.markReady q before =
      { s with
        link :=
          { s.link with
            readyPending :=
              if marksReady (s.store.queues.get q).watermark before (s.store.occ q) then
                s.link.readyPending ||| BitVec.twoPow 4 q.val
              else s.link.readyPending } } := by
  unfold State.markReady
  split <;> rfl

theorem State.startSignal_eq (s : State) (q : LaneId) (x : Option (SignalOut × Nat)) :
    s.startSignal q x = { s with outputs := (s.startSignal q x).outputs } := by
  unfold State.startSignal
  split <;> rfl

/-- The bits of the READY-pending set after an admission. -/
theorem getLsbD_ready (pending : BitVec 4) (q : LaneId) (marks : Bool) (n : Nat) :
    (if marks = true then pending ||| BitVec.twoPow 4 q.val else pending).getLsbD n =
      (pending.getLsbD n || (decide (n = q.val) && marks)) := by
  cases marks
  · simp
  · have small := q.isLt
    simp only [if_true, BitVec.getLsbD_or, BitVec.getLsbD_twoPow, Bool.and_true]
    congr 1
    by_cases h : n = q.val
    · simp [h]
    · simp [h, Ne.symm h]

/-- The signal of an event reads nothing that the wait and the watermark change. -/
theorem State.startSignal_outputs (s : State) (st : EventStore) (l : Link) (q : LaneId)
    (x : Option (SignalOut × Nat)) :
    (({ s with store := st, link := l } : State).startSignal q x).outputs =
      match x with
      | none => s.outputs
      | some (o, n) => (s.updateSignal q o (SignalOutput.start s.time (s.pattern n))).outputs := by
  cases x <;> rfl

theorem State.offerEvent_refused {s : State} {d : LaneId} {e : Event} {st : EventStore}
    (x : Option (SignalOut × Nat)) (h : s.store.offer d e (d != e.lane) = (st, false)) :
    s.offerEvent d e x = { s with store := st } := by
  unfold State.offerEvent
  rw [h]
  rfl

/-- The wait and the watermark of an admitted event. -/
def State.handOnAdmitted (s : State) (d : LaneId) (e : Event) (before : EventStore) : State :=
  (s.testWait d e.body.source (before.queues.get d).nextSequence).markReady d (before.occ d)

theorem State.offerEvent_admitted {s : State} {d : LaneId} {e : Event} {st : EventStore}
    (x : Option (SignalOut × Nat)) (h : s.store.offer d e (d != e.lane) = (st, true)) :
    s.offerEvent d e x = (({ s with store := st } : State).handOnAdmitted d e s.store).startSignal e.lane x := by
  unfold State.offerEvent
  rw [h]
  rfl

/-- What the handing on of an admission changes: the store, the transmit path and the READY-pending set. -/
theorem State.handOnAdmitted_eq (s : State) (d : LaneId) (e : Event) (before : EventStore) :
    ∃ st l, s.testWait d e.body.source (before.queues.get d).nextSequence =
        { s with store := st, link := { s.link with transmit := l } } ∧
      s.handOnAdmitted d e before =
        { s with
          store := st
          link :=
            { s.link with
              transmit := l
              readyPending :=
                if marksReady (s.store.queues.get d).watermark (before.occ d) (s.store.occ d) then
                  s.link.readyPending ||| BitVec.twoPow 4 d.val
                else s.link.readyPending } } := by
  obtain ⟨⟨st, l, tested⟩, occ, watermark⟩ := s.testWait_frame d e.body.source (before.queues.get d).nextSequence
  refine ⟨st, l, tested, ?_⟩
  unfold State.handOnAdmitted
  rw [State.markReady_eq, occ, watermark, tested]

/-- The reply to a wait that an admission completes (R19, R20). -/
theorem completeWait_code (clamped : Bool) :
    (carriedOut (!clamped)).code = if clamped then 1 else 0 := by
  cases clamped <;> rfl

/-- Settles O14: a refusal changes the store; an admission tests the wait, then the watermark, then starts its signal,
and each reads what the ones before it leave as it was. -/
theorem admissionHandsOn : Obligations.AdmissionHandsOn := by
  refine ⟨fun s d e x st h => State.offerEvent_refused x h, fun s d e x st y h hy => ?_⟩
  subst hy
  obtain ⟨wait, watermark⟩ := EventStore.offer_wait_watermark h
  obtain ⟨st', l, tested, handed⟩ := ({ s with store := st } : State).handOnAdmitted_eq d e s.store
  have result := State.offerEvent_admitted x h
  rw [handed, State.startSignal_eq, State.startSignal_outputs { s with store := st }] at result
  rw [result]
  have untouched (none : ∀ w, (s.store.queues.get d).wait = some w → w.sources.getLsbD e.body.source.index = false) :
      st' = st ∧ l = s.link.transmit := by
    rw [State.testWait_none (s := { s with store := st }) _ _ (by rw [wait]; exact none)] at tested
    exact ⟨(congrArg State.store tested).symm, (congrArg (fun t => t.link.transmit) tested).symm⟩
  refine ⟨fun none => untouched fun w hw => ?_, fun w hw out => untouched fun v hv => ?_, fun w hw inside => ?_,
    ⟨_, _, _, rfl⟩, fun n => ?_, fun none => ?_, fun o n some => ?_⟩
  · exact nomatch none.symm.trans hw
  · cases hw.symm.trans hv
    exact out
  · rw [State.testWait_some (s := { s with store := st }) _ (wait.trans hw) inside] at tested
    refine ⟨(congrArg State.store tested).symm, (congrArg (fun t => t.link.transmit) tested).symm.trans ?_⟩
    simp only [State.completeWait, State.push, replyMessage, completeWait_code]
    rfl
  · rw [← watermark]
    exact getLsbD_ready _ d _ n
  · rw [none]
  · rw [some]
    rfl

end Sys2Proof.Machine

/-!
PROOF. The requests of the Event Store (obligations O16 to O19): SET_ADMISSION, FETCH and the event records it carries,
FLUSH, AWAIT and the end of a wait.
-/

namespace Sys2Proof.Machine

/-! ## SET_ADMISSION (R24, R25) -/

/-- The status of a request whose values are clamped is OK exactly where the clamping changes nothing (R192). -/
theorem carriedOut_beq {α : Type} [DecidableEq α] (a b : α) :
    carriedOut (a == b) = if a = b then .ok else .adjusted := by
  by_cases h : a = b <;> simp [carriedOut, h]

theorem toNat_num1 {n : Nat} (h : n < 256) : (BitVec.ofNat 8 n).toNat = n := by
  rw [BitVec.toNat_ofNat, Nat.mod_eq_of_lt h]

theorem toNat_num2 {n : Nat} (h : n < 65536) :
    ((BitVec.ofNat 16 n).extractLsb' 8 8 ++ (BitVec.ofNat 16 n).extractLsb' 0 8).toNat = n := by
  rw [halfBytes_append, BitVec.toNat_ofNat, Nat.mod_eq_of_lt h]

theorem AdmissionSettings.bytes_eq (a : AdmissionSettings) :
    a.bytes =
      num1 (a.reserves.get 0) ++ num1 (a.reserves.get 1) ++ num1 (a.reserves.get 2) ++ num1 (a.reserves.get 3) ++
        num2 a.laneLimits.entry ++ num2 a.laneLimits.scan ++ num2 a.laneLimits.bulk ++ num2 a.sharedLimits.entry ++
        num2 a.sharedLimits.scan ++ num2 a.sharedLimits.bulk ++ num2 (a.watermarks.get 0) ++
        num2 (a.watermarks.get 1) ++ num2 (a.watermarks.get 2) ++ num2 (a.watermarks.get 3) := rfl

/-- Settings that fit their fields are read back as they were written. -/
theorem admissionAt_bytes {a : AdmissionSettings} (lanes : ∀ q, a.reserves.get q < 256 ∧ a.watermarks.get q < 65536)
    (laneLimits : a.laneLimits.entry < 65536 ∧ a.laneLimits.scan < 65536 ∧ a.laneLimits.bulk < 65536)
    (sharedLimits : a.sharedLimits.entry < 65536 ∧ a.sharedLimits.scan < 65536 ∧ a.sharedLimits.bulk < 65536) :
    admissionAt a.bytes = a := by
  obtain ⟨reserves, ⟨e, c, b⟩, ⟨e', c', b'⟩, watermarks⟩ := a
  obtain ⟨he, hc, hb⟩ := laneLimits
  obtain ⟨he', hc', hb'⟩ := sharedLimits
  simp only [admissionAt, AdmissionSettings.mk.injEq, ClassLimits.mk.injEq]
  refine ⟨?_, ⟨toNat_num2 he, toNat_num2 hc, toNat_num2 hb⟩, ⟨toNat_num2 he', toNat_num2 hc', toNat_num2 hb'⟩, ?_⟩
  · refine Lanes.ext fun q => ?_
    match q, (lanes q).1 with
    | 0, h | 1, h | 2, h | 3, h => exact toNat_num1 h
  · refine Lanes.ext fun q => ?_
    match q, (lanes q).2 with
    | 0, h | 1, h | 2, h | 3, h => exact toNat_num2 h

theorem exec_setAdmission (tag : Byte) (b : List Byte) (s : State) :
    exec (.setAdmission tag b) s = .next (s.takeWith 0x13 tag b setAdmissionRule) := rfl

theorem setAdmissionRule_length (tag : Byte) (b : List Byte) (s : State) (h : b.length ≠ 24) :
    setAdmissionRule tag b s = refuse s .badArgument := if_pos h

/-- SET_ADMISSION with settings that fit their fields. -/
theorem setAdmissionRule_bytes (tag : Byte) {a : AdmissionSettings} (s : State) (h : admissionAt a.bytes = a) :
    setAdmissionRule tag a.bytes s =
      if s.store.fits a.clamped.reserves then
        ({ s with store := s.store.withSettings a.clamped },
          .reply (if a.clamped = a then .ok else .adjusted) a.clamped.bytes)
      else (s, .reply .noResource s.store.occBytes) := by
  unfold setAdmissionRule
  rw [if_neg (not_not.2 (show a.bytes.length = 24 from rfl)), h, ← carriedOut_beq]

/-- Settles O16: the settings of a body are clamped, and the one test left is that the events held fit. -/
theorem setAdmission : Obligations.SetAdmission := by
  refine ⟨wrongLengthRefused_of_rule exec_setAdmission setAdmissionRule_length, AdmissionSettings.bytes_eq,
    fun tag a g s ht lanes laneLimits sharedLimits hg => ?_⟩
  have rule := setAdmissionRule_bytes tag s (admissionAt_bytes lanes laneLimits sharedLimits)
  obtain rfl : g = a.clamped := hg
  refine ⟨fun fits => ?_, fun tooMany => ?_⟩
  · exact exec_of_rule exec_setAdmission ht (rule.trans (if_pos (decide_eq_true fits)))
  · exact exec_of_rule exec_setAdmission ht
      (rule.trans (if_neg (by exact mt of_decide_eq_true (Nat.not_le.2 tooMany))))

/-! ## FETCH (R14, R15) -/

/-- What a FETCH takes is as many of the oldest records as the maximum and the room let it. -/
theorem takeRecords_eq : ∀ (n room : Nat) (l : List EventRecord),
    ∃ k, k ≤ n ∧ k ≤ l.length ∧ ((l.take k).map EventRecord.size).sum ≤ room ∧
      (k = n ∨ k = l.length ∨ room < ((l.take (k + 1)).map EventRecord.size).sum) ∧
      takeRecords n room l = (l.take k, l.drop k)
  | 0, _, l => ⟨0, le_rfl, Nat.zero_le _, Nat.zero_le _, Or.inl rfl, rfl⟩
  | n + 1, _, [] => ⟨0, Nat.zero_le _, le_rfl, Nat.zero_le _, Or.inr (Or.inl rfl), rfl⟩
  | n + 1, room, r :: l => by
    by_cases fits : r.size ≤ room
    · obtain ⟨k, few, within, room', full, cut⟩ := takeRecords_eq n (room - r.size) l
      refine ⟨k + 1, by omega, Nat.succ_le_succ within, ?_, ?_, ?_⟩
      · rw [List.take_succ_cons, List.map_cons, List.sum_cons]
        omega
      · rw [List.take_succ_cons, List.map_cons, List.sum_cons, List.length_cons]
        omega
      · rw [takeRecords, if_pos fits, cut]
        rfl
    · refine ⟨0, Nat.zero_le _, Nat.zero_le _, Nat.zero_le _, Or.inr (Or.inr ?_), ?_⟩
      · rw [List.take_succ_cons, List.take_zero, List.map_singleton, List.sum_singleton]
        omega
      · rw [takeRecords, if_neg fits]
        rfl

theorem exec_fetch (tag : Byte) (b : List Byte) (s : State) :
    exec (.fetch tag b) s = .next (s.takeWith 0x14 tag b fetchRule) := rfl

/-! ## The event record (R203) -/

theorem halfBytes_eq (h : Half) : halfBytes h = [BitVec.ofNat 8 (h.toNat / 256), BitVec.ofNat 8 h.toNat] := by
  simp [halfBytes, BitVec.extractLsb', Nat.shiftRight_eq_div_pow]

theorem wordBytes_eq (w : Time) :
    wordBytes w =
      [BitVec.ofNat 8 (w.toNat / 16777216), BitVec.ofNat 8 (w.toNat / 65536), BitVec.ofNat 8 (w.toNat / 256),
        BitVec.ofNat 8 w.toNat] := by
  simp [wordBytes, BitVec.extractLsb', Nat.shiftRight_eq_div_pow]

/-- A record by the codes of its event's fields. -/
theorem EventRecord.layout {r : EventRecord} {source kind cls keylock flags : Byte} {payload : List Byte}
    (hs : num1 r.event.body.source.index = [source]) (hk : r.event.body.kindCode = kind)
    (hp : r.event.body.payload = payload) (hc : r.event.cls.code = cls) (hl : num1 r.event.keylock.index = [keylock])
    (hf : r.event.flags = flags) :
    r.size = 17 + payload.length ∧
      r.bytes =
        [BitVec.ofNat 8 (17 + payload.length), laneByte r.event.lane] ++ halfBytes r.sequence ++
          wordBytes r.event.time ++ [source, kind, cls, keylock, flags] ++ halfBytes (r.event.tag.getD 0) ++
          num2 r.lostBefore ++ payload := by
  subst hp
  refine ⟨rfl, ?_⟩
  unfold EventRecord.bytes EventRecord.size
  rw [hs, hk, hc, hl, hf]
  rfl

theorem Event.flags_eq {e : Event} {v : Bool} (hv : e.body.hasValue = v) :
    e.flags = (if e.tag.isSome then 1 else 0) ||| (if v then 2 else 0) := by
  rw [← hv]
  rfl

/-- Settles O17: what takeRecords cuts off is the longest run within the maximum and the room; a record is laid out event
by event. -/
theorem fetch : Obligations.Fetch := by
  refine ⟨⟨wrongLengthRefused_of_laneRule exec_fetch, badLaneRefused_of_laneRule exec_fetch,
    fun tag m q x s ht hx => ?_⟩,
    fun n h w q => ⟨rfl, rfl, rfl, rfl, halfBytes_eq h, rfl, wordBytes_eq w, rfl⟩,
    fun r e source kind payload hasValue he described => ?_⟩
  · subst hx
    obtain ⟨k, few, within, room, full, cut⟩ :=
      takeRecords_eq (clamp 1 8 m.toNat) Config.fetchRoom (s.store.queues.get q).events
    refine ⟨k, few, within, room, full, (exec_lane_of_laneRule exec_fetch (b := [m]) s ht rfl).trans ?_⟩
    have carried : (s.store.queues.get q).fetchable (clamp 1 8 m.toNat) = (s.store.queues.get q).events.take k :=
      congrArg Prod.fst cut
    have counted : ((s.store.queues.get q).events.take k).length = k := List.length_take_of_le within
    have after : (s.store.queues.get q).fetched (clamp 1 8 m.toNat) =
        { s.store.queues.get q with
          events := (s.store.queues.get q).events.drop k
          counters :=
            { (s.store.queues.get q).counters with
              fetched := (s.store.queues.get q).counters.fetched + BitVec.ofNat 32 k } } := by
      unfold LaneQueue.fetched
      rw [carried, counted, cut]
    simp only [natAt, byteAt_succ, byteAt_zero, carried, after, counted, List.length_drop, carriedOut_beq]
    rfl
  · subst he
    have fields : num1 r.event.body.source.index = [source] ∧ r.event.body.kindCode = kind ∧
        r.event.body.payload = payload ∧ r.event.body.hasValue = hasValue := by
      rcases hb : r.event.body with ⟨_ | _ | _ | _, _, _⟩ | ⟨_ | _ | _ | _ | _⟩ | ⟨_ | _ | _ | _ | _, _⟩ |
        ⟨_ | _, _, _ | _ | _, _, _ | ⟨_ | _ | _, _ | _ | _, _, _, _⟩⟩ | ⟨_ | _ | _⟩ | _ | _ | _ | ⟨_ | _ | _⟩ | _ |
        ⟨_, _ | _ | _ | _ | _⟩ | _ | _ | _ | _ | ⟨_, _ | _ | _ | _⟩ | _ | ⟨_ | _⟩
      all_goals
        rw [hb] at described
        obtain ⟨rfl, rfl, rfl, rfl⟩ := by
          simpa only [Prod.mk.injEq, BitVec.ofNat_toNat] using described
        exact ⟨rfl, rfl, rfl, rfl⟩
    obtain ⟨hs, hk, hp, hv⟩ := fields
    refine EventRecord.layout hs hk hp ?_ ?_ ?_
    · cases r.event.cls <;> rfl
    · cases r.event.keylock <;> rfl
    · rw [Event.flags_eq hv]
      cases r.event.tag.isSome <;> cases hasValue <;> rfl

/-! ## FLUSH (R16) -/

theorem exec_flush (tag : Byte) (b : List Byte) (s : State) :
    exec (.flush tag b) s = .next (s.takeWith 0x15 tag b flushRule) := rfl

/-- Settles O18: FLUSH is the flush of the queue and a settling. -/
theorem flush : Obligations.Flush := by
  refine ⟨wrongLengthRefused_of_laneRule exec_flush, badLaneRefused_of_laneRule exec_flush,
    fun tag q x s ht hx => ?_⟩
  subst hx
  exact exec_lane_of_laneRule exec_flush (b := []) s ht rfl

/-! ## AWAIT (R17 to R19) -/

theorem exec_await (tag : Byte) (b : List Byte) (s : State) :
    exec (.await tag b) s = .next (s.takeWith 0x16 tag b awaitRule) := rfl

theorem awaitFields_refused (lane : Byte) (n occ : Nat) :
    awaitFields lane n occ 0 0 = [lane] ++ num4 n ++ num2 occ ++ [0, 0, 0] := rfl

theorem State.occHeld_lane (s : State) (q : LaneId) (l : List Byte) : s.occHeld (laneByte q :: l) = s.store.occ q := by
  unfold State.occHeld laneHeld
  rw [List.head?_cons, Option.bind_some, laneOf_laneByte]

theorem State.occHeld_badLane (s : State) {v : Byte} (h : 3 < v.toNat) (l : List Byte) : s.occHeld (v :: l) = 0 := by
  unfold State.occHeld laneHeld
  rw [List.head?_cons, Option.bind_some, laneOf_eq_none h]

@[simp] theorem wordAt_wordBytes (v m : Byte) (t : BitVec 32) (rest : List Byte) :
    wordAt (v :: m :: (wordBytes t ++ rest)) 2 = t := wordBytes_append t

/-- A body that holds the four bytes of a timeout gives it, at most 600000 (R17). -/
theorem timeoutHeld_whole (v m : Byte) (t : BitVec 32) (rest : List Byte) :
    timeoutHeld (v :: m :: (wordBytes t ++ rest)) = min 600000 t.toNat := by
  unfold timeoutHeld
  rw [if_neg, wordAt_wordBytes]
  simp [wordBytes]

theorem timeoutHeld_short {l : List Byte} (h : l.length < 6) : timeoutHeld l = 0 := if_pos h

/-- The timeout a refusal carries, by what its body holds. -/
theorem timeoutHeld_cons (v : Byte) {l : List Byte} {t : BitVec 32} {n : Nat}
    (h : (l.length < 5 ∧ n = 0) ∨ ((∃ m rest, l = m :: wordBytes t ++ rest) ∧ n = min 600000 t.toNat)) :
    timeoutHeld (v :: l) = n := by
  rcases h with ⟨short, rfl⟩ | ⟨⟨m, rest, rfl⟩, rfl⟩
  · exact timeoutHeld_short (by rw [List.length_cons]; omega)
  · exact timeoutHeld_whole v m t rest

theorem State.awaitRefusal_cons (s : State) (v : Byte) {l : List Byte} {t : BitVec 32} {n : Nat}
    (h : (l.length < 5 ∧ n = 0) ∨ ((∃ m rest, l = m :: wordBytes t ++ rest) ∧ n = min 600000 t.toNat)) :
    s.awaitRefusal (v :: l) = [v] ++ num4 n ++ num2 (s.occHeld (v :: l)) ++ [0, 0, 0] := by
  unfold State.awaitRefusal
  rw [awaitFields_refused, timeoutHeld_cons v h, byteAt_zero]

/-- The refusal of a body of the right length. -/
theorem State.awaitRefusal_whole (s : State) (v m : Byte) (t : BitVec 32) :
    s.awaitRefusal (v :: m :: wordBytes t) =
      [v] ++ num4 (min 600000 t.toNat) ++ num2 (s.occHeld (v :: m :: wordBytes t)) ++ [0, 0, 0] :=
  s.awaitRefusal_cons v (Or.inr ⟨⟨m, [], (List.append_nil _).symm⟩, rfl⟩)

theorem awaitRule_length (tag : Byte) (b : List Byte) (s : State) (h : b.length ≠ 6) :
    awaitRule tag b s = (s, .reply .badArgument (s.awaitRefusal b)) := if_pos h

/-- The wait that an AWAIT asks for. -/
def waitAsked (tag m : Byte) (t : BitVec 32) (now : Time) : Wait :=
  { tag := tag
    sources := m.setWidth 6
    timeout := min 600000 t.toNat
    clamped := decide (600000 < t.toNat)
    expiry := if min 600000 t.toNat = 0 then none else some (now + BitVec.ofNat 32 (min 600000 t.toNat)) }

theorem waitFor_whole (tag v m : Byte) (t : BitVec 32) (now : Time) :
    waitFor tag (v :: m :: wordBytes t) now = waitAsked tag m t now := by
  have timeout : timeoutHeld (v :: m :: wordBytes t) = min 600000 t.toNat :=
    timeoutHeld_cons v (Or.inr ⟨⟨m, [], (List.append_nil _).symm⟩, rfl⟩)
  have word : wordAt (v :: m :: wordBytes t) 2 = t := wordBytes_append t
  unfold waitFor waitAsked
  rw [timeout, word]
  rfl

theorem Source.index_lt (src : Source) : src.index < 6 := by cases src <;> decide

/-- The sources of a wait are the bits of its mask. -/
theorem inSources_setWidth (m : Byte) (src : Source) : inSources (m.setWidth 6) src = m.getLsbD src.index := by
  unfold inSources
  rw [BitVec.getLsbD_setWidth, decide_eq_true src.index_lt, Bool.true_and]

theorem LaneQueue.oldestFrom_eq_some {x : LaneQueue} {m : Byte} {older younger : List EventRecord} {r : EventRecord}
    (held : x.events = older ++ r :: younger) (inside : m.getLsbD r.event.body.source.index = true)
    (outside : ∀ o ∈ older, m.getLsbD o.event.body.source.index = false) :
    x.oldestFrom (m.setWidth 6) = some r := by
  unfold LaneQueue.oldestFrom
  rw [List.find?_eq_some_iff_append]
  refine ⟨(inSources_setWidth _ _).trans inside, older, younger, held, fun o ho => ?_⟩
  rw [inSources_setWidth, outside o ho]
  rfl

theorem LaneQueue.oldestFrom_eq_none {x : LaneQueue} {m : Byte}
    (outside : ∀ r ∈ x.events, m.getLsbD r.event.body.source.index = false) : x.oldestFrom (m.setWidth 6) = none := by
  unfold LaneQueue.oldestFrom
  rw [List.find?_eq_none]
  intro r hr
  rw [inSources_setWidth, outside r hr]
  exact Bool.false_ne_true

section
variable (tag m : Byte) (t : BitVec 32) (s : State)

theorem awaitRule_badLane {l : Byte} (h : 3 < l.toNat) :
    awaitRule tag (l :: m :: wordBytes t) s =
      (s, .reply .badLane ([l] ++ num4 (min 600000 t.toNat) ++ [0, 0, 0, 0, 0])) := by
  unfold awaitRule
  rw [if_neg (not_not.2 (show (l :: m :: wordBytes t).length = 6 from rfl)), byteAt_zero, laneOf_eq_none h,
    s.awaitRefusal_whole, s.occHeld_badLane h]
  rfl

/-- What the rule does on a lane. -/
theorem awaitRule_lane (q : LaneId) :
    awaitRule tag (laneByte q :: m :: wordBytes t) s =
      if m = 0 ∨ !maskHas 6 m then
        (s, .reply .badArgument (s.awaitRefusal (laneByte q :: m :: wordBytes t)))
      else if (s.store.queues.get q).wait.isSome then
        (s, .reply .busy (s.awaitRefusal (laneByte q :: m :: wordBytes t)))
      else
        match (s.store.queues.get q).oldestFrom (m.setWidth 6) with
        | some r =>
          (s, .reply (carriedOut (!decide (600000 < t.toNat)))
            (awaitFields (laneByte q) (min 600000 t.toNat) (s.store.occ q) r.sequence 0))
        | none => ({ s with store := s.store.setWait q (some (waitAsked tag m t s.time)) }, .noReply) := by
  unfold awaitRule
  rw [if_neg (not_not.2 (show (laneByte q :: m :: wordBytes t).length = 6 from rfl)), byteAt_zero, laneOf_laneByte,
    waitFor_whole]
  rfl

end

theorem State.awaitRefusal_nil (s : State) : s.awaitRefusal [] = List.replicate 10 0 := by
  unfold State.awaitRefusal
  rw [timeoutHeld_short (show ([] : List Byte).length < 6 by decide), show s.occHeld [] = 0 from rfl]
  decide

/-- A set of existing sources, not empty, passes the test of R17. -/
theorem not_sources_refused {m : Byte} (pos : 0 < m.toNat) (small : m.toNat < 64) : ¬(m = 0 ∨ !maskHas 6 m) := by
  rintro (rfl | big)
  · exact absurd pos (by decide)
  · simp only [maskHas, Bool.not_eq_true', decide_eq_false_iff_not] at big
    exact big small

/-- The refusal on a lane. -/
theorem State.awaitRefusal_lane (s : State) (q : LaneId) (m : Byte) (t : BitVec 32) :
    s.awaitRefusal (laneByte q :: m :: wordBytes t) =
      [laneByte q] ++ num4 (min 600000 t.toNat) ++ num2 (s.store.occ q) ++ [0, 0, 0] := by
  rw [s.awaitRefusal_whole, s.occHeld_lane]

/-! ## The end of a wait (R21, R22) -/

theorem State.cancelWait_none {s : State} {q : LaneId} (c : Byte) (h : (s.store.queues.get q).wait = none) :
    s.cancelWait q c = s := by
  unfold State.cancelWait
  rw [h]

theorem State.cancelWait_some {s : State} {q : LaneId} {w : Wait} (c : Byte)
    (h : (s.store.queues.get q).wait = some w) : s.cancelWait q c = s.completeWait q w .cancelled 0 c := by
  unfold State.cancelWait
  rw [h]

theorem exec_awaitExpiry_none {s : State} {q : LaneId}
    (h : ∀ w e, (s.store.queues.get q).wait = some w → w.expiry = some e → reached s.time e = false) :
    exec (.awaitExpiry q) s = .next s := by
  show execAwaitExpiry q s = _
  unfold execAwaitExpiry
  split
  · rename_i w hw
    rw [if_neg]
    cases he : w.expiry with
    | none => simp
    | some e => simp [h w e hw he]
  · rfl

theorem exec_awaitExpiry_some {s : State} {q : LaneId} {w : Wait} {e : Time}
    (hw : (s.store.queues.get q).wait = some w) (he : w.expiry = some e) (due : reached s.time e = true) :
    exec (.awaitExpiry q) s = .next (s.completeWait q w .timeout 0 0) := by
  show execAwaitExpiry q s = _
  unfold execAwaitExpiry
  rw [hw]
  simp [he, due]

theorem exec_cancelAwait (tag : Byte) (b : List Byte) (s : State) :
    exec (.cancelAwait tag b) s = .next (s.takeWith 0x17 tag b cancelAwaitRule) := rfl

/-- Settles O19: AWAIT by its tests in order, and the ends of a wait by whether one is pending. -/
theorem awaiting : Obligations.Awaiting := by
  refine ⟨⟨fun tag b s ht hb => exec_of_rule exec_await ht (awaitRule_length tag b s hb), fun l t n s h => ⟨fun q => ?_,
      fun v hv => ?_⟩, State.awaitRefusal_nil, fun tag l m t s ht hl => exec_of_rule exec_await ht (awaitRule_badLane tag m t s hl),
    fun tag m t q s ht hm => ?_, fun tag m t q x n s ht pos small hx hn => ⟨fun busy => ?_,
      fun older younger r idle held inside outside => ?_, fun idle outside => ?_⟩⟩,
    fun q x w e s hx hw he due => ?_, fun q s early => exec_awaitExpiry_none early,
    wrongLengthRefused_of_laneRule exec_cancelAwait, badLaneRefused_of_laneRule exec_cancelAwait,
    fun tag q x w s ht hx hw => ?_, fun tag q s ht idle => ?_⟩
  · rw [s.awaitRefusal_cons _ h, s.occHeld_lane]
  · rw [s.awaitRefusal_cons _ h, s.occHeld_badLane hv]
    rfl
  · refine (exec_of_rule exec_await ht (awaitRule_lane tag m t s q)).trans ?_
    rw [if_pos, s.awaitRefusal_lane]
    · rfl
    · refine hm.imp id fun big => ?_
      simp only [maskHas, Bool.not_eq_true', decide_eq_false_iff_not]
      omega
  · subst hx hn
    refine (exec_of_rule exec_await ht (awaitRule_lane tag m t s q)).trans ?_
    rw [if_neg (not_sources_refused pos small), if_pos busy, s.awaitRefusal_lane]
    rfl
  · subst hx hn
    refine (exec_of_rule exec_await ht (awaitRule_lane tag m t s q)).trans ?_
    rw [if_neg (not_sources_refused pos small), if_neg (by simp [idle]),
      LaneQueue.oldestFrom_eq_some held inside outside]
    by_cases long : t.toNat ≤ 600000 <;> simp [carriedOut, long, awaitFields, EventStore.occ]
  · subst hx hn
    refine (exec_of_rule exec_await ht (awaitRule_lane tag m t s q)).trans ?_
    rw [if_neg (not_sources_refused pos small), if_neg (by simp [idle]), LaneQueue.oldestFrom_eq_none outside]
    rfl
  · subst hx
    exact exec_awaitExpiry_some hw he due
  · subst hx
    refine (exec_lane_of_laneRule exec_cancelAwait (b := []) s ht rfl).trans ?_
    rw [State.cancelWait_some _ hw, hw]
    rfl
  · refine (exec_lane_of_laneRule exec_cancelAwait (b := []) s ht rfl).trans ?_
    rw [State.cancelWait_none _ idle, idle]
    rfl

end Sys2Proof.Machine

/-!
PROOF. The Classification Table (obligations O20, O21): what it is to match a rule, which rule claims an action, and the
stages of a classification.
-/

namespace Sys2Proof.Machine

/-! ## Matching (R32 to R35) -/

/-- An enabled field is tested, one that is not enabled passes. -/
theorem not_or_eq_true_iff (enabled test : Bool) : (!enabled || test) = true ↔ (enabled = true → test = true) := by
  cases enabled <;> simp

/-- The prefix comparison, position by position (R34). -/
theorem prefixMatches_iff : ∀ es ds : List Byte,
    prefixMatches es ds = true ↔ ∀ (n : Nat) (e : Byte), es[n]? = some e → ∃ c, ds[n]? = some c ∧ (e = 0 ∨ e = c)
  | [], ds => by simp [prefixMatches]
  | e :: es, [] => by
    simp only [prefixMatches, Bool.false_eq_true, false_iff, not_forall]
    exact ⟨0, e, rfl, by simp⟩
  | e :: es, d :: ds => by
    rw [prefixMatches, Bool.and_eq_true, prefixMatches_iff es ds]
    constructor
    · rintro ⟨first, rest⟩ n e' at_n
      cases n with
      | zero =>
        obtain rfl : e = e' := by simpa using at_n
        exact ⟨d, rfl, by simpa using first⟩
      | succ n => exact rest n e' at_n
    · intro all
      refine ⟨?_, fun n e' at_n => all (n + 1) e' at_n⟩
      obtain ⟨c, hc, same⟩ := all 0 e rfl
      obtain rfl : d = c := by simpa using hc
      simpa using same

/-- As many entries are compared as the prefix has. -/
theorem prefixMatches_take_iff (es ds : List Byte) (k : Nat) :
    prefixMatches (es.take k) ds = true ↔
      ∀ n : Nat, n < k → ∀ e : Byte, es[n]? = some e → ∃ c, ds[n]? = some c ∧ (e = 0 ∨ e = c) := by
  rw [prefixMatches_iff]
  refine forall_congr' fun n => ?_
  rw [List.getElem?_take]
  by_cases within : n < k <;> simp [within]

theorem RuleRecord.fitsSymbol_iff (r : RuleRecord) (code : Byte) (g : Grade) (d : List Byte) :
    r.fitsSymbol code g d = true ↔
      (r.enables.symbologies = true → r.symbologies.getLsbD code.toNat = true) ∧
      (r.enables.grades = true → r.grades.getLsbD g.index = true) ∧
      (r.enables.length = true → r.lengthMin.toNat ≤ d.length ∧ d.length ≤ r.lengthMax.toNat) ∧
      (r.enables.prefixes = true →
        ∀ n, n < r.prefixLength.toNat → ∀ e, r.prefixEntries.toList[n]? = some e →
          ∃ c, d[n]? = some c ∧ (e = 0 ∨ e = c)) := by
  unfold RuleRecord.fitsSymbol memberOf
  simp only [Bool.and_eq_true, not_or_eq_true_iff, prefixMatches_take_iff, decide_eq_true_eq]
  exact ⟨fun ⟨⟨⟨a, b⟩, c⟩, d⟩ => ⟨a, d, c, b⟩, fun ⟨a, d, c, b⟩ => ⟨⟨⟨a, b⟩, c⟩, d⟩⟩

theorem RuleRecord.fitsKey_iff (r : RuleRecord) (k : KeyKind) (c : Byte) :
    r.fitsKey k c = true ↔
      (r.enables.keyCode = true → r.codeLow.toNat ≤ c.toNat ∧ c.toNat ≤ r.codeHigh.toNat) ∧
      (r.enables.transitions = true → r.transitions.getLsbD k.index = true) := by
  unfold RuleRecord.fitsKey memberOf
  simp only [Bool.and_eq_true, not_or_eq_true_iff, decide_eq_true_eq]

/-- An enabled field that does not apply to the event's source does not match (R32). -/
theorem RuleRecord.fitsBody_iff (r : RuleRecord) (b : EventBody) :
    r.fitsBody b = true ↔
      (r.enables.symbologies = true → ∃ p code g d v, b = .symbol p code g d v ∧
        r.symbologies.getLsbD code.toNat = true) ∧
      (r.enables.grades = true → ∃ p code g d v, b = .symbol p code g d v ∧ r.grades.getLsbD g.index = true) ∧
      (r.enables.length = true → ∃ p code g d v, b = .symbol p code g d v ∧
        r.lengthMin.toNat ≤ d.length ∧ d.length ≤ r.lengthMax.toNat) ∧
      (r.enables.prefixes = true → ∃ p code g d v, b = .symbol p code g d v ∧
        ∀ n : Nat, n < r.prefixLength.toNat → ∀ e, r.prefixEntries.toList[n]? = some e →
          ∃ c, d[n]? = some c ∧ (e = 0 ∨ e = c)) ∧
      (r.enables.keyCode = true → ∃ k p c, b = .key k p c ∧
        r.codeLow.toNat ≤ c.toNat ∧ c.toNat ≤ r.codeHigh.toNat) ∧
      (r.enables.transitions = true → ∃ k p c, b = .key k p c ∧ r.transitions.getLsbD k.index = true) := by
  have applies (e : FieldEnables) :
      (!e.anyKey) = true ↔ ¬e.keyCode = true ∧ ¬e.transitions = true := by
    simp [FieldEnables.anyKey]
  have applies' (e : FieldEnables) :
      (!e.anySymbol) = true ↔
        ¬e.symbologies = true ∧ ¬e.grades = true ∧ ¬e.length = true ∧ ¬e.prefixes = true := by
    simp only [FieldEnables.anySymbol, Bool.not_eq_true', Bool.or_eq_false_iff, Bool.not_eq_true]
    tauto
  cases b with
  | symbol p code g d v =>
    rw [RuleRecord.fitsBody, Bool.and_eq_true, applies, RuleRecord.fitsSymbol_iff]
    simp only [EventBody.symbol.injEq, reduceCtorEq, false_and, exists_false, imp_false]
    have here (P : Byte → Grade → List Byte → Prop) :
        (∃ p' code' g' d' v', (p = p' ∧ code = code' ∧ g = g' ∧ d = d' ∧ v = v') ∧ P code' g' d') ↔ P code g d :=
      ⟨fun ⟨_, _, _, _, _, ⟨_, hc, hg, hd, _⟩, h⟩ => hc ▸ hg ▸ hd ▸ h, fun h => ⟨p, code, g, d, v, ⟨rfl, rfl, rfl, rfl, rfl⟩, h⟩⟩
    rw [here fun code' _ _ => r.symbologies.getLsbD code'.toNat = true, here fun _ g' _ => r.grades.getLsbD g'.index = true,
      here fun _ _ d' => r.lengthMin.toNat ≤ d'.length ∧ d'.length ≤ r.lengthMax.toNat,
      here fun _ _ d' => ∀ n : Nat, n < r.prefixLength.toNat → ∀ e, r.prefixEntries.toList[n]? = some e →
        ∃ c, d'[n]? = some c ∧ (e = 0 ∨ e = c)]
    tauto
  | key k p c =>
    rw [RuleRecord.fitsBody, Bool.and_eq_true, applies', RuleRecord.fitsKey_iff]
    simp only [EventBody.key.injEq, reduceCtorEq, false_and, exists_false, imp_false]
    have here (P : KeyKind → Byte → Prop) :
        (∃ k' p' c', (k = k' ∧ p = p' ∧ c = c') ∧ P k' c') ↔ P k c :=
      ⟨fun ⟨_, _, _, ⟨hk, _, hc⟩, h⟩ => hk ▸ hc ▸ h, fun h => ⟨k, p, c, ⟨rfl, rfl, rfl⟩, h⟩⟩
    rw [here fun _ c' => r.codeLow.toNat ≤ c'.toNat ∧ c'.toNat ≤ r.codeHigh.toNat,
      here fun k' _ => r.transitions.getLsbD k'.index = true]
    tauto
  | _ =>
    rw [RuleRecord.fitsBody, Bool.and_eq_true, applies, applies']
    · simp only [reduceCtorEq, false_and, exists_false, imp_false]
      tauto
    all_goals exact nofun

theorem RuleRecord.fits_iff (r : RuleRecord) (x : Subject) :
    r.fits x = true ↔
      (r.enables.lanes = true → r.lanes.getLsbD x.lane.val = true) ∧
      (r.enables.sources = true → r.sources.getLsbD x.body.source.index = true) ∧
      (r.enables.keylock = true → r.keylock.getLsbD x.keylock.index = true) ∧
      (r.enables.privilege = true → (r.privilege ≠ 0 ↔ x.elevated = true)) ∧ r.fitsBody x.body = true := by
  have privilege : (flagOf r.privilege == x.elevated) = true ↔ (r.privilege ≠ 0 ↔ x.elevated = true) := by
    rw [beq_iff_eq, Bool.eq_iff_iff, flagOf, decide_eq_true_eq]
  unfold RuleRecord.fits memberOf
  simp only [Bool.and_eq_true, not_or_eq_true_iff, privilege, and_assoc]

/-! ## The search (R37) -/

/-- A rule claims the action: it is VALID, it matches, and its mode for the action is not OFF. -/
def claims (x : Subject) (mode : ActionModes → ActionMode) (o : Option RuleRecord) : Bool :=
  match o with
  | some r => r.fits x && mode r.modes != .off
  | none => false

/-- The value an action takes from the rule found, if any. -/
def claimValue {α : Type} (mode : ActionModes → ActionMode) (value : RuleRecord → α) :
    Option (Option RuleRecord) → Option α
  | some (some r) => if mode r.modes = .set then some (value r) else none
  | _ => none

theorem ClassTable.claim_eq {α : Type} (t : ClassTable) (x : Subject) (mode : ActionModes → ActionMode)
    (value : RuleRecord → α) :
    t.claim x mode value = claimValue mode value (t.rules.toList.find? (claims x mode)) := rfl

section
variable {t : ClassTable} {x : Subject} {mode : ActionModes → ActionMode}

theorem claims_some (r : RuleRecord) : claims x mode (some r) = true ↔ r.fits x = true ∧ mode r.modes ≠ .off := by
  simp [claims]

/-- Among the rules before the one that claims an action none claims it. -/
theorem ClassTable.find_of_claimedBy {r : RuleRecord} (h : t.claimedBy x mode r) :
    t.rules.toList.find? (claims x mode) = some (some r) := by
  obtain ⟨n, rule, fits, acts, first⟩ := h
  rw [List.find?_eq_some_iff_getElem]
  refine ⟨(claims_some r).2 ⟨fits, acts⟩, n.val, by simp, rule, fun m before => ?_⟩
  have within : m < 64 := Nat.lt_trans before n.isLt
  have none : claims x mode (t.rule ⟨m, within⟩) = false := by
    rcases hr : t.rule ⟨m, within⟩ with _ | r'
    · rfl
    · refine Bool.eq_false_iff.2 fun claimed => ?_
      obtain ⟨fits', acts'⟩ := (claims_some r').1 claimed
      exact acts' (first ⟨m, within⟩ r' before hr fits')
  exact (congrArg (!·) none).trans rfl

theorem ClassTable.find_of_unclaimed (h : t.unclaimed x mode) : t.rules.toList.find? (claims x mode) = none := by
  rw [List.find?_eq_none]
  intro o member
  obtain ⟨n, within, rfl⟩ := Vector.mem_iff_getElem.1 (Vector.mem_toList_iff.1 member)
  rcases hr : t.rules[n] with _ | r
  · exact Bool.false_ne_true
  · rw [claims_some]
    rintro ⟨fits, acts⟩
    exact acts (h ⟨n, within⟩ r hr fits)

theorem ClassTable.claim_of_claimedBy {α : Type} (value : RuleRecord → α) {r : RuleRecord} (h : t.claimedBy x mode r) :
    t.claim x mode value = if mode r.modes = .set then some (value r) else none := by
  rw [ClassTable.claim_eq, ClassTable.find_of_claimedBy h]
  rfl

theorem ClassTable.claim_of_unclaimed {α : Type} (value : RuleRecord → α) (h : t.unclaimed x mode) :
    t.claim x mode value = none := by
  rw [ClassTable.claim_eq, ClassTable.find_of_unclaimed h]
  rfl

/-- An action that is not claimed, or claimed in mode DEFAULT, takes its default; one claimed in mode SET takes the value
of the record (R37). -/
theorem ClassTable.claim_cases {α : Type} (value : RuleRecord → α) {D : Prop} {V : RuleRecord → Prop}
    (default : t.claim x mode value = none → D) (set : ∀ r, t.claim x mode value = some (value r) → V r) :
    (t.unclaimed x mode → D) ∧
      ∀ r, t.claimedBy x mode r → (mode r.modes = .default → D) ∧ (mode r.modes = .set → V r) := by
  refine ⟨fun h => default (ClassTable.claim_of_unclaimed value h), fun r h => ⟨fun isDefault => default ?_,
    fun isSet => set r ?_⟩⟩
  · rw [ClassTable.claim_of_claimedBy value h, if_neg (by rw [isDefault]; exact nofun)]
  · rw [ClassTable.claim_of_claimedBy value h, if_pos isSet]

end

/-! ## The six actions (R38 to R43) -/

theorem State.elevated_iff (s : State) (q : LaneId) :
    s.elevated q = true ↔ (s.keyboards.get q).keylock.position = .supervisor ∨
      (s.keyboards.get q).keylock.position = .service ∨ (s.modes.get q).attendant = true := by
  simp only [State.elevated, Bool.or_eq_true, beq_iff_eq, or_assoc]

/-- The DISPOSE value of a record (R38). -/
theorem RuleRecord.disposal_values (r : RuleRecord) :
    (r.disposeValue = 0 → r.disposal = .deliver) ∧
      (∀ d : LaneId, r.disposeValue = 1 → r.redirectLane = laneByte d → r.disposal = .redirect d) ∧
      (r.disposeValue = 2 → r.disposal = .discard) := by
  unfold RuleRecord.disposal
  refine ⟨fun h => ?_, fun d h hd => ?_, fun h => ?_⟩
  · simp [h]
  · simp [h, hd]
  · simp [h]

theorem eventClassOf_values {b : Byte} {k : EventClass}
    (h : (b, k) ∈ [((0 : Byte), EventClass.critical), (1, .entry), (2, .scan), (3, .bulk)]) :
    eventClassOf b = some k := by
  simp only [List.mem_cons, Prod.mk.injEq, List.not_mem_nil, or_false] at h
  rcases h with ⟨rfl, rfl⟩ | ⟨rfl, rfl⟩ | ⟨rfl, rfl⟩ | ⟨rfl, rfl⟩ <;> rfl

/-- The event is matched with its lane, its lane's key-lock position and its lane's privilege (R31, R179). -/
theorem State.actionsFor_eq (s : State) {q : LaneId} {b : EventBody} {x : Subject} (lane : x.lane = q)
    (body : x.body = b) (keylock : x.keylock = (s.keyboards.get q).keylock.position)
    (elevated : x.elevated = true ↔
      x.keylock = .supervisor ∨ x.keylock = .service ∨ (s.modes.get q).attendant = true) :
    s.actionsFor q b = s.table.search x := by
  unfold State.actionsFor
  obtain ⟨xl, xb, xk, xe⟩ := x
  obtain rfl : xl = q := lane
  obtain rfl : xb = b := body
  obtain rfl : xk = _ := keylock
  rw [← State.elevated_iff] at elevated
  rw [Bool.eq_iff_iff.2 elevated.symm]

/-- Settles O20: an enabled field is a conjunct; the search is the claim of each action; and an empty table claims none. -/
theorem ruleSearch : Obligations.RuleSearch := by
  refine ⟨fun r x => (r.fits_iff x).trans (by rw [r.fitsBody_iff]),
    ⟨fun t x mode value n r rule fits acts first => ClassTable.claim_of_claimedBy value ⟨n, rule, fits, acts, first⟩,
      fun t x mode value none => ClassTable.claim_of_unclaimed value none⟩,
    fun s q b x a c ha lane body keylock elevated hc => ?_, fun s q b empty => ?_⟩
  · rw [State.actionsFor_eq s lane body keylock elevated] at ha
    subst ha
    refine ⟨?_, ?_, ?_, ?_, ?_, ?_⟩
    · refine ClassTable.claim_cases RuleRecord.disposal (fun h => ?_) fun r h => ?_
      · exact congrArg (·.getD Disposal.deliver) h
      · have taken : (s.table.search x).dispose = r.disposal := congrArg (·.getD Disposal.deliver) h
        rw [taken]
        exact r.disposal_values
    · refine ClassTable.claim_cases (fun r => eventClassOf r.classValue) (fun h => ?_) fun r h k member => ?_
      · rw [hc, ← body]
        simp only [ClassTable.search, h]
        cases x.body.source <;> rfl
      · rw [eventClassOf_values member] at h
        simp only [ClassTable.search, h]
    · exact ClassTable.claim_cases RuleRecord.tagValue id fun r h => h
    · exact ClassTable.claim_cases (fun r => r.decodeProfile.toNat) id fun r h => h
    · refine ClassTable.claim_cases (fun r => (signalOutOf r.signalOutput, r.signalPattern.toNat)) id
        fun r h => ⟨fun lamp => ?_, fun tone => ?_⟩
      · exact h.trans (by rw [lamp]; rfl)
      · exact h.trans (by rw [tone]; rfl)
    · exact ClassTable.claim_cases (fun r => r.countIndex.toNat) id fun r h => h
  · have unclaimed (mode : ActionModes → ActionMode) :
        s.table.unclaimed ⟨q, b, (s.keyboards.get q).keylock.position, s.elevated q⟩ mode :=
      fun n r rule => nomatch (empty n).symm.trans rule
    unfold State.actionsFor ClassTable.search
    rw [ClassTable.claim_of_unclaimed _ (unclaimed _), ClassTable.claim_of_unclaimed _ (unclaimed _),
      ClassTable.claim_of_unclaimed _ (unclaimed _), ClassTable.claim_of_unclaimed _ (unclaimed _),
      ClassTable.claim_of_unclaimed _ (unclaimed _), ClassTable.claim_of_unclaimed _ (unclaimed _)]
    cases b.source <;> rfl

/-! ## The stages of a classification (R44) -/

theorem ClassTable.profile_eq (t : ClassTable) (n : Fin 8) : t.profile n.val = t.profiles.get n := by
  unfold ClassTable.profile
  rw [List.getD_eq_getElem?_getD, List.getElem?_eq_getElem (by simp), Option.getD_some, Vector.getElem_toList]
  rfl

theorem ClassTable.decoded_other (t : ClassTable) {b : EventBody} (n : Option Nat)
    (h : ∀ p code g d v, b ≠ .symbol p code g d v) : t.decoded b n = b := by
  cases b with
  | symbol p code g d v => exact absurd rfl (h p code g d v)
  | _ => cases n <;> rfl

/-- The table after a classification, by its COUNT (R43). -/
theorem ClassTable.counted_cases {s u : State} {count : Option Nat} (uncounted : count = none → u = s)
    (flow : ∀ n : Fin 32, count = some n.val →
      u = { s with table := { s.table with flow := s.table.flow.set n.val (s.table.flow.get n + 1) n.isLt } })
    (within : ∀ n, count = some n → n < 32) : u = { s with table := s.table.counted count } := by
  cases count with
  | none => exact uncounted rfl
  | some n =>
    have h := within n rfl
    rw [flow ⟨n, h⟩ rfl, ClassTable.counted, dif_pos h]
    rfl

/-- Settles O21: a produced event is counted, and then discarded or offered. -/
theorem classificationStages : Obligations.ClassificationStages := by
  refine ⟨fun t p code g data v n => ?_, fun t b => ?_, fun t b n other => t.decoded_other n other,
    fun s u q t b a ha uncounted flow within => ⟨fun discard => ?_, fun d dest => ?_⟩⟩
  · rw [ClassTable.decoded, t.profile_eq]
  · cases b <;> rfl
  · rw [ClassTable.counted_cases uncounted flow within]
    subst ha
    unfold State.produce
    simp only [discard]
    rfl
  · rw [ClassTable.counted_cases uncounted flow within]
    subst ha
    unfold State.produce
    rcases dest with redirect | ⟨deliver, rfl⟩
    · simp only [redirect]
      rfl
    · simp only [deliver]
      rfl

end Sys2Proof.Machine

/-!
PROOF. The records of the Classification Table (obligations O22, O24): WRITE_RULE, SET_PROFILE and the decode of a
symbol's data.
-/

namespace Sys2Proof.Machine

/-! ## SET_PROFILE (R51) -/

/-- SET_PROFILE on an index in range. -/
def setProfileAt (n : Fin 8) (b : List Byte) (s : State) : State × Answer :=
  match valueKindOf (byteAt b 3) with
  | none => refuse s .badArgument
  | some k =>
    ({ s with table := s.table.withProfile n (profileTaken b k) },
      .reply (carriedOut (profileAsGiven b (profileTaken b k))) (byteAt b 0 :: (profileTaken b k).bytes))

theorem setProfileRule_eq : setProfileRule = indexRule 8 8 setProfileAt := by
  funext tag b s
  unfold setProfileRule indexRule setProfileAt
  cases indexOf 8 (byteAt b 0) <;> cases valueKindOf (byteAt b 3) <;> rfl

theorem exec_setProfile (tag : Byte) (b : List Byte) (s : State) :
    exec (.setProfile tag b) s = .next (s.takeWith 0x12 tag b (indexRule 8 8 setProfileAt)) :=
  setProfileRule_eq ▸ rfl

theorem valueKindOf_eq_none {k : Byte} (h : 2 < k.toNat) : valueKindOf k = none := by
  unfold valueKindOf
  rw [if_neg, if_neg, if_neg] <;> rintro rfl <;> exact absurd h (by decide)

theorem ofNat_eq_iff {v : Nat} (h : v < 256) (b : Byte) : BitVec.ofNat 8 v = b ↔ v = b.toNat := by
  rw [← BitVec.toNat_inj, toNat_num1 h]

theorem clamp_le {lo hi : Nat} (h : lo ≤ hi) (v : Nat) : clamp lo hi v ≤ hi := by
  unfold clamp
  omega

/-- The settings taken are those given exactly where their bytes are the bytes given. -/
theorem profileAsGiven_iff (a vs vl d c is il : Byte) (k : ValueKind) :
    profileAsGiven [a, vs, vl, k.code, d, c, is, il] (profileTaken [a, vs, vl, k.code, d, c, is, il] k) = true ↔
      (profileTaken [a, vs, vl, k.code, d, c, is, il] k).bytes = [vs, vl, k.code, d, c, is, il] := by
  have start := clamp_le (lo := 1) (hi := 40) (by decide) vs.toNat
  have item := clamp_le (lo := 1) (hi := 48) (by decide) is.toNat
  simp only [profileAsGiven, profileTaken, natAt, byteAt_succ, byteAt_zero, Bool.and_eq_true, beq_iff_eq,
    Profile.bytes, num1, List.cons_append, List.nil_append, List.cons.injEq, and_true, clamp_zero_left]
  rw [ofNat_eq_iff (by omega), ofNat_eq_iff (by omega), ofNat_eq_iff (by omega), ofNat_eq_iff (by omega),
    ofNat_eq_iff (by omega), ofNat_eq_iff (by omega)]
  tauto

theorem carriedOut_eq_if {v : Bool} {p : Prop} [Decidable p] (h : v = true ↔ p) :
    carriedOut v = if p then .ok else .adjusted := by
  unfold carriedOut
  simp only [h]

/-! ## Embedded values (R118 to R121) -/

section
variable {data : List Byte} {start n : Nat}

theorem digitField_eq_none
    (h : data.length < start - 1 + n ∨ ∃ b ∈ (data.drop (start - 1)).take n, isDigit b = false) :
    digitField data start n = none := by
  unfold digitField
  split
  · rename_i within
    rcases h with short | ⟨b, hb, other⟩
    · exact absurd short (Nat.not_lt.2 within)
    · refine if_neg fun all => ?_
      rw [List.all_eq_true.1 all b hb] at other
      exact nomatch other
  · rfl

theorem digitField_eq_some (within : start - 1 + n ≤ data.length)
    (digits : ∀ b ∈ (data.drop (start - 1)).take n, isDigit b = true) :
    digitField data start n = some ((data.drop (start - 1)).take n) := by
  unfold digitField
  rw [if_pos within]
  exact if_pos (List.all_eq_true.2 digits)

/-- The field of one character at a position of the data. -/
theorem take_one_drop {c : Nat} (h : c ≠ 0) (within : c ≤ data.length) :
    (data.drop (c - 1)).take 1 = [data.getD (c - 1) 0] := by
  have inside : c - 1 < data.length := by omega
  rw [List.drop_eq_getElem_cons inside, List.take_succ_cons, List.take_zero, List.getD_eq_getElem?_getD,
    List.getElem?_eq_getElem inside, Option.getD_some]

end

section
variable (p : Profile) (data : List Byte)

theorem Profile.checkField_eq_none (used : p.checkPosition ≠ 0)
    (h : data.length < p.checkPosition ∨ isDigit (data.getD (p.checkPosition - 1) 0) = false) :
    p.checkField data = none := by
  unfold Profile.checkField
  rw [if_neg used]
  by_cases within : p.checkPosition ≤ data.length
  · have other := h.resolve_left (Nat.not_lt.2 within)
    rw [digitField_eq_none (Or.inr ⟨data.getD (p.checkPosition - 1) 0, ?_, other⟩)]
    · rfl
    · rw [take_one_drop used within]
      exact List.mem_singleton_self _
  · rw [digitField_eq_none (Or.inl (by omega))]
    rfl

theorem Profile.checkField_eq_some (used : p.checkPosition ≠ 0) (within : p.checkPosition ≤ data.length)
    (digit : isDigit (data.getD (p.checkPosition - 1) 0) = true) :
    p.checkField data = some (some [data.getD (p.checkPosition - 1) 0]) := by
  unfold Profile.checkField
  rw [if_neg used, digitField_eq_some (by omega), take_one_drop used within]
  · rfl
  · rw [take_one_drop used within]
    intro b hb
    rwa [List.mem_singleton.1 hb]

theorem Profile.decodeInUse_malformed
    (h : digitField data p.valueStart p.valueLength = none ∨ p.checkField data = none ∨ p.itemField data = none) :
    p.decodeInUse data =
      { status := .malformed, kind := p.kind, decimals := p.decimals, value := none, item := none } := by
  unfold Profile.decodeInUse
  split
  · rename_i hv hc hi
    rw [hv, hc, hi] at h
    exact absurd h (by simp)
  · rfl

theorem Profile.decodeInUse_read {v : List Byte} {check item : Option (List Byte)}
    (hv : digitField data p.valueStart p.valueLength = some v) (hc : p.checkField data = some check)
    (hi : p.itemField data = some item) :
    p.decodeInUse data =
      if ∀ c, check = some c → fieldCheckSum v % 10 = decimal c then
        { status := .valid, kind := p.kind, decimals := p.decimals, value := some (decimal v), item := item }
      else { status := .checkFailed, kind := p.kind, decimals := p.decimals, value := none, item := item } := by
  unfold Profile.decodeInUse
  rw [hv, hc, hi]
  cases check with
  | none => simp
  | some c => by_cases good : fieldCheckSum v % 10 = decimal c <;> simp [good]

end

/-- A short field's digits with the weights of R120. -/
theorem fieldCheckSum_eq {v : List Byte} (h : v.length ≤ 6) :
    fieldCheckSum v = ((v.zip [3, 7, 9, 3, 7, 9]).map fun x => digitValue x.1 * x.2).sum := by
  match v with
  | [] => rfl
  | [_] | [_, _] | [_, _, _] | [_, _, _, _] | [_, _, _, _, _] | [_, _, _, _, _, _] =>
    simp only [fieldCheckSum, List.zip_cons_cons, List.zip_nil_left, List.map_cons, List.map_nil, List.sum_cons,
      List.sum_nil]
    omega
  | _ :: _ :: _ :: _ :: _ :: _ :: _ :: l =>
    simp only [List.length_cons] at h
    omega

theorem isDigit_iff (b : Byte) : isDigit b = true ↔ 0x30 ≤ b.toNat ∧ b.toNat ≤ 0x39 := by
  rw [isDigit, Bool.and_eq_true, decide_eq_true_eq, decide_eq_true_eq]

theorem decimal_append (v : List Byte) (b : Byte) : decimal (v ++ [b]) = decimal v * 10 + (b.toNat - 0x30) := by
  rw [decimal, List.foldl_append]
  rfl

/-- Settles O24: the settings clamped are compared byte by byte; a decode reads its fields, and each that cannot be read
makes it MALFORMED. -/
theorem profilesAndValues : Obligations.ProfilesAndValues := by
  refine ⟨⟨wrongLengthRefused_of_indexRule exec_setProfile, fun tag n b s ht hb hn => ?_,
      fun tag vs vl k d c is il n s ht hk => ?_, fun tag vs vl d c is il k n p s ht hp => ?_,
      fun p => by obtain ⟨_, _, k, _⟩ := p; cases k <;> rfl⟩,
    fun p data unused => if_pos unused, fun p data used unreadable => ?_,
    fun p data v used hv within digits check item => ?_, fun v hv => fieldCheckSum_eq hv,
    fun b => ⟨isDigit_iff b, rfl⟩, rfl, decimal_append⟩
  · exact exec_badIndex_of_indexRule exec_setProfile s ht (by rw [List.length_cons, hb]) hn
  · refine (exec_index_of_indexRule exec_setProfile s ht rfl (indexOf_eight n)).trans ?_
    rw [setProfileAt, show byteAt [BitVec.ofNat 8 n.val, vs, vl, k, d, c, is, il] 3 = k from rfl,
      valueKindOf_eq_none hk, State.answer_refuse]
  · refine (exec_index_of_indexRule exec_setProfile s ht rfl (indexOf_eight n)).trans ?_
    have taken : p = profileTaken [BitVec.ofNat 8 n.val, vs, vl, k.code, d, c, is, il] k := by
      rw [hp]
      simp only [profileTaken, natAt, byteAt_succ, byteAt_zero, clamp_zero_left]
    rw [setProfileAt, show byteAt [BitVec.ofNat 8 n.val, vs, vl, k.code, d, c, is, il] 3 = k.code from rfl,
      valueKindOf_code]
    have status := carriedOut_eq_if (profileAsGiven_iff (BitVec.ofNat 8 n.val) vs vl d c is il k)
    rw [← taken] at status
    simp only [← taken, status]
    rfl
  · rw [Profile.decode, if_neg used, p.decodeInUse_malformed]
    rcases unreadable with short | other | ⟨checked, bad⟩ | ⟨items, bad⟩
    · exact Or.inl (digitField_eq_none (Or.inl short))
    · exact Or.inl (digitField_eq_none (Or.inr other))
    · exact Or.inr (Or.inl (p.checkField_eq_none data checked bad))
    · right; right
      unfold Profile.itemField
      rw [if_neg items, digitField_eq_none bad]
      rfl
  · have value := digitField_eq_some within (hv ▸ digits)
    rw [← hv] at value
    have items : p.itemField data =
        some (if p.itemLength = 0 then none else some ((data.drop (p.itemStart - 1)).take p.itemLength)) := by
      unfold Profile.itemField
      by_cases none : p.itemLength = 0
      · rw [if_pos none, if_pos none]
      · rw [if_neg none, if_neg none, digitField_eq_some (item none).1 (item none).2]
        rfl
    rw [Profile.decode, if_neg used]
    by_cases unchecked : p.checkPosition = 0
    · have none : p.checkField data = some none := if_pos unchecked
      rw [p.decodeInUse_read data value none items, if_pos nofun, if_pos (Or.inl unchecked)]
    · obtain ⟨inside, digit⟩ := check unchecked
      rw [p.decodeInUse_read data value (p.checkField_eq_some data unchecked inside digit) items]
      have same : (∀ c, some [data.getD (p.checkPosition - 1) 0] = some c → fieldCheckSum v % 10 = decimal c) ↔
          (p.checkPosition = 0 ∨ fieldCheckSum v % 10 = digitValue (data.getD (p.checkPosition - 1) 0)) := by
        simp [unchecked, decimal]
      simp only [same]

end Sys2Proof.Machine

/-!
PROOF. WRITE_RULE (obligation O22): a record is read back as it is written, the four tests of R45 on it, and the record
stored.
-/

namespace Sys2Proof.Machine

/-! ## The record in a body (R204) -/

theorem ActionMode.ofCode (m : ActionMode) : actionModeOf m.code = some m := by cases m <;> rfl

theorem RuleRecord.bytes_eq (r : RuleRecord) :
    r.bytes =
      [flagByte r.enables.lanes, flagByte r.enables.sources, flagByte r.enables.keylock, flagByte r.enables.privilege,
        flagByte r.enables.symbologies, flagByte r.enables.prefixes, flagByte r.enables.length,
        flagByte r.enables.grades, flagByte r.enables.keyCode, flagByte r.enables.transitions, r.lanes, r.sources,
        r.keylock, r.privilege] ++ halfBytes r.symbologies ++ [r.prefixLength] ++ r.prefixEntries.toList ++
        [r.lengthMin, r.lengthMax, r.grades, r.codeLow, r.codeHigh, r.transitions, r.modes.dispose.code,
          r.modes.cls.code, r.modes.tag.code, r.modes.decode.code, r.modes.signal.code, r.modes.count.code,
          r.disposeValue, r.redirectLane, r.classValue] ++ halfBytes r.tagValue ++
        [r.decodeProfile, r.signalOutput, r.signalPattern, r.countIndex] := by
  simp [RuleRecord.bytes, FieldEnables.bytes, ActionModes.bytes]

theorem vector_eight {α : Type} (v : Vector α 8) :
    v = #v[v[0], v[1], v[2], v[3], v[4], v[5], v[6], v[7]] := by
  ext i hi
  interval_cases i <;> rfl

theorem toList_eight {α : Type} (v : Vector α 8) :
    v.toList = [v[0], v[1], v[2], v[3], v[4], v[5], v[6], v[7]] :=
  congrArg Vector.toList (vector_eight v)

theorem fieldEnablesAt_bytes (a : Byte) (r : RuleRecord) : fieldEnablesAt (a :: r.bytes) 1 = some r.enables := by
  simp [fieldEnablesAt, RuleRecord.bytes_eq, List.range_succ]

theorem actionModesAt_bytes (a : Byte) (r : RuleRecord) : actionModesAt (a :: r.bytes) 32 = some r.modes := by
  simp [actionModesAt, RuleRecord.bytes_eq, halfBytes, toList_eight, ActionMode.ofCode]

theorem halfAt_cons_cons (h : Half) (l : List Byte) :
    halfAt (h.extractLsb' 8 8 :: h.extractLsb' 0 8 :: l) 0 = h := halfBytes_append h

/-- A record is read back as it is written. -/
theorem ruleRecordAt_bytes (a : Byte) (r : RuleRecord) : ruleRecordAt (a :: r.bytes) 1 = some r := by
  unfold ruleRecordAt
  rw [fieldEnablesAt_bytes, actionModesAt_bytes]
  have entries := (vector_eight r.prefixEntries).symm
  obtain ⟨e, lanes, sources, keylock, privilege, symbologies, prefixLength, v, lengthMin, lengthMax, grades, codeLow,
    codeHigh, transitions, m, dispose, redirect, cls, mark, profile, output, pattern, count⟩ := r
  simp [RuleRecord.bytes_eq, halfBytes, toList_eight, halfAt_cons_cons, entries]

/-! ## An enable or a mode that does not exist -/

theorem fieldEnablesAt_eq_none {b : List Byte} {o i : Nat} (within : i < 10) (h : 1 < (byteAt b (o + i)).toNat) :
    fieldEnablesAt b o = none := by
  refine if_neg fun all => ?_
  have flag := List.all_eq_true.1 all i (List.mem_range.2 within)
  rw [isFlag_eq_false h] at flag
  exact nomatch flag

theorem actionModeOf_eq_none {b : Byte} (h : 2 < b.toNat) : actionModeOf b = none := by
  unfold actionModeOf
  rw [if_neg, if_neg, if_neg] <;> rintro rfl <;> exact absurd h (by decide)

theorem actionModesAt_eq_none {b : List Byte} {o i : Nat} (within : i < 6) (h : 2 < (byteAt b (o + i)).toNat) :
    actionModesAt b o = none := by
  have none := actionModeOf_eq_none h
  unfold actionModesAt
  split
  · interval_cases i <;> simp_all
  · rfl

/-- A byte of a record's 46 that no enable or no mode has. -/
theorem ruleRecordAt_eq_none (a : Byte) {b : List Byte} {i : Nat}
    (h : (i < 10 ∧ 1 < (b.getD i 0).toNat) ∨ (31 ≤ i ∧ i < 37 ∧ 2 < (b.getD i 0).toNat)) :
    ruleRecordAt (a :: b) 1 = none := by
  have none : fieldEnablesAt (a :: b) 1 = none ∨ actionModesAt (a :: b) 32 = none := by
    rcases h with ⟨within, flag⟩ | ⟨low, high, mode⟩
    · refine Or.inl (fieldEnablesAt_eq_none within ?_)
      rwa [Nat.add_comm, byteAt_succ]
    · refine Or.inr (actionModesAt_eq_none (i := i - 31) (by omega) ?_)
      rwa [show 32 + (i - 31) = i + 1 by omega, byteAt_succ]
  unfold ruleRecordAt
  split
  · rename_i he hm
    rw [he, hm] at none
    exact absurd none (by simp)
  · rfl

/-! ## The tests of R45 on a record -/

/-- An enumeration value of the record does not exist (test 3). -/
theorem RuleRecord.legal_eq_false (r : RuleRecord) :
    r.legal = false ↔
      (r.enables.lanes = true ∧ 15 < r.lanes.toNat) ∨ (r.enables.sources = true ∧ 63 < r.sources.toNat) ∨
      (r.enables.keylock = true ∧ 31 < r.keylock.toNat) ∨ (r.enables.privilege = true ∧ 1 < r.privilege.toNat) ∨
      (r.enables.prefixes = true ∧ ∃ e ∈ r.prefixEntries.toList, e ≠ 0 ∧ (e.toNat < 0x20 ∨ 0x7E < e.toNat)) ∨
      (r.enables.grades = true ∧ 7 < r.grades.toNat) ∨ (r.enables.transitions = true ∧ 15 < r.transitions.toNat) ∨
      (r.modes.dispose = .set ∧ 2 < r.disposeValue.toNat) ∨ (r.modes.cls = .set ∧ 3 < r.classValue.toNat) ∨
      (r.modes.signal = .set ∧ 1 < r.signalOutput.toNat) := by
  have entry (e : Byte) : prefixEntryLegal e = false ↔ e ≠ 0 ∧ (e.toNat < 0x20 ∨ 0x7E < e.toNat) := by
    simp only [prefixEntryLegal, Bool.or_eq_false_iff, Bool.and_eq_false_iff, beq_eq_false_iff_ne,
      decide_eq_false_iff_not, Nat.not_le]
  simp only [RuleRecord.legal, maskHas, isFlag, Bool.and_eq_false_iff, Bool.or_eq_false_iff, Bool.not_eq_false',
    bne_eq_false_iff_eq, decide_eq_false_iff_not, List.all_eq_false, Bool.not_eq_true, entry, or_assoc, Nat.not_lt]
  rfl

theorem laneOf_isNone_iff (b : Byte) : (laneOf b).isNone = true ↔ 3 < b.toNat := by
  unfold laneOf
  split <;> simp <;> omega

theorem RuleRecord.badRedirect_iff (r : RuleRecord) :
    r.badRedirect = true ↔ r.modes.dispose = .set ∧ r.disposeValue = 1 ∧ 3 < r.redirectLane.toNat := by
  simp only [RuleRecord.badRedirect, Bool.and_eq_true, beq_iff_eq, laneOf_isNone_iff, and_assoc]

theorem RuleRecord.badActionIndex_iff (r : RuleRecord) :
    r.badActionIndex = true ↔
      (r.modes.decode = .set ∧ 7 < r.decodeProfile.toNat) ∨ (r.modes.signal = .set ∧ 7 < r.signalPattern.toNat) ∨
        (r.modes.count = .set ∧ 31 < r.countIndex.toNat) := by
  simp only [RuleRecord.badActionIndex, Bool.or_eq_true, Bool.and_eq_true, beq_iff_eq, decide_eq_true_eq, or_assoc]

theorem toNat_clampByte {lo hi : Nat} (h : lo ≤ hi) (top : hi < 256) (b : Byte) :
    (clampByte lo hi b).toNat = clamp lo hi b.toNat :=
  toNat_num1 (Nat.lt_of_le_of_lt (clamp_le h _) top)

theorem clamp_code (b : Byte) : clamp 1 255 b.toNat = max 1 b.toNat := by
  have := b.isLt
  unfold clamp
  omega

/-- The ranges are compared as they are taken (test 6). -/
theorem RuleRecord.badOrder_clamped_iff (r : RuleRecord) :
    r.clamped.badOrder = true ↔
      (r.enables.length = true ∧ clamp 1 48 r.lengthMax.toNat < clamp 1 48 r.lengthMin.toNat) ∨
        (r.enables.keyCode = true ∧ max 1 r.codeHigh.toNat < max 1 r.codeLow.toNat) := by
  simp only [RuleRecord.badOrder, Bool.or_eq_true, Bool.and_eq_true, decide_eq_true_eq, ← clamp_code]
  rw [← toNat_clampByte (by decide) (by decide), ← toNat_clampByte (by decide) (by decide),
    ← toNat_clampByte (by decide) (by decide), ← toNat_clampByte (by decide) (by decide)]
  simp only [RuleRecord.clamped]
  refine or_congr (and_congr_right fun on => ?_) (and_congr_right fun on => ?_)
  · rw [if_pos on, if_pos on]
  · rw [if_pos on, if_pos on]

/-- The record taken: every enabled range is clamped (R46). -/
theorem RuleRecord.clamped_eq (r : RuleRecord) :
    r.clamped =
      { r with
        prefixLength := if r.enables.prefixes then BitVec.ofNat 8 (clamp 1 8 r.prefixLength.toNat) else r.prefixLength
        lengthMin := if r.enables.length then BitVec.ofNat 8 (clamp 1 48 r.lengthMin.toNat) else r.lengthMin
        lengthMax := if r.enables.length then BitVec.ofNat 8 (clamp 1 48 r.lengthMax.toNat) else r.lengthMax
        codeLow := if r.enables.keyCode then BitVec.ofNat 8 (max 1 r.codeLow.toNat) else r.codeLow
        codeHigh := if r.enables.keyCode then BitVec.ofNat 8 (max 1 r.codeHigh.toNat) else r.codeHigh } := by
  simp only [← clamp_code]
  rfl

/-- The record stored: a REDIRECT byte that no REDIRECT reads is 0 (log 14). -/
theorem RuleRecord.stored_eq (r : RuleRecord) :
    r.stored =
      { r with redirectLane := if r.modes.dispose = .set ∧ r.disposeValue ≠ 1 then 0 else r.redirectLane } := by
  unfold RuleRecord.stored
  split <;> rfl

/-! ## WRITE_RULE (R45, R46) -/

/-- WRITE_RULE on an index in range. -/
def writeRuleAt (n : Fin 64) (b : List Byte) (s : State) : State × Answer :=
  match ruleRecordAt b 1 with
  | none => refuse s .badArgument
  | some given =>
    match given.refusal with
    | some st => refuse s st
    | none =>
      ({ s with table := s.table.withRule n (some given.clamped.stored) },
        .reply (carriedOut (given.clamped == given)) (byteAt b 0 :: given.clamped.stored.bytes))

theorem writeRuleRule_eq : writeRuleRule = indexRule 47 64 writeRuleAt := by
  funext tag b s
  unfold writeRuleRule indexRule writeRuleAt
  cases indexOf 64 (byteAt b 0) with
  | none => rfl
  | some n =>
    cases ruleRecordAt b 1 with
    | none => rfl
    | some given => cases h : given.refusal <;> simp only [h]

theorem exec_writeRule (tag : Byte) (b : List Byte) (s : State) :
    exec (.writeRule tag b) s = .next (s.takeWith 0x0F tag b (indexRule 47 64 writeRuleAt)) :=
  writeRuleRule_eq ▸ rfl

theorem RuleRecord.length_bytes (r : RuleRecord) : r.bytes.length = 46 := by
  simp [RuleRecord.bytes_eq, halfBytes]

section
variable {tag : Byte} (ht : tag ≠ 0) (n : Fin 64) {r : RuleRecord} (s : State)
include ht

theorem exec_writeRule_refused {st : Status} (h : r.refusal = some st) :
    exec (.writeRule tag (BitVec.ofNat 8 n.val :: r.bytes)) s = .next (s.replied tag 0x0F st []) := by
  refine (exec_index_of_indexRule exec_writeRule s ht (by rw [List.length_cons, r.length_bytes])
    (indexOf_sixtyFour n)).trans ?_
  simp only [writeRuleAt, ruleRecordAt_bytes, h, State.answer_refuse]

theorem exec_writeRule_taken (h : r.refusal = none) :
    exec (.writeRule tag (BitVec.ofNat 8 n.val :: r.bytes)) s =
      .next ({ s with table := s.table.withRule n (some r.clamped.stored) }.replied tag 0x0F
        (if r.clamped = r then .ok else .adjusted) (BitVec.ofNat 8 n.val :: r.clamped.stored.bytes)) := by
  refine (exec_index_of_indexRule exec_writeRule s ht (by rw [List.length_cons, r.length_bytes])
    (indexOf_sixtyFour n)).trans ?_
  simp only [writeRuleAt, ruleRecordAt_bytes, h, carriedOut_beq]
  rfl

end

theorem ClassTable.rule_withRule (t : ClassTable) (n : Fin 64) (r : Option RuleRecord) : (t.withRule n r).rule n = r :=
  Vector.getElem_set_self _

/-- Settles O22: the tests of R45 in order are the branches of the refusal; what passes them is stored and read back. -/
theorem writeRule : Obligations.WriteRule := by
  refine ⟨wrongLengthRefused_of_indexRule exec_writeRule, RuleRecord.bytes_eq, fun tag n b s ht hb hn => ?_,
    fun tag n b i s ht hb hi => ?_,
    fun tag n r illegal redirect index order lo hi lo' hi' s ht hillegal hredirect hindex hlo hhi hlo' hhi' horder => ?_⟩
  · exact exec_badIndex_of_indexRule exec_writeRule s ht (by rw [List.length_cons, hb]) hn
  · refine (exec_index_of_indexRule exec_writeRule s ht (by rw [List.length_cons, hb]) (indexOf_sixtyFour n)).trans ?_
    rw [writeRuleAt, ruleRecordAt_eq_none _ hi, State.answer_refuse]
  · subst hlo hhi hlo' hhi'
    rw [← r.legal_eq_false] at hillegal
    rw [← r.badRedirect_iff] at hredirect
    rw [← r.badActionIndex_iff] at hindex
    rw [← r.badOrder_clamped_iff] at horder
    have refusal : r.refusal =
        if r.legal = false then some .badArgument else if r.badRedirect = true then some .badLane
        else if r.badActionIndex = true then some .badIndex
        else if r.clamped.badOrder = true then some .badArgument else none := by
      unfold RuleRecord.refusal
      cases r.legal <;> rfl
    refine ⟨fun h => ?_, fun h1 h => ?_, fun h1 h2 h => ?_, fun h1 h2 h3 h => ?_,
      fun h1 h2 h3 h4 taken stored t htaken hstored ht' => ?_⟩
    · exact exec_writeRule_refused ht n s (by rw [refusal, if_pos (hillegal.1 h)])
    · exact exec_writeRule_refused ht n s (by rw [refusal, if_neg (mt hillegal.2 h1), if_pos (hredirect.1 h)])
    · exact exec_writeRule_refused ht n s (by
        rw [refusal, if_neg (mt hillegal.2 h1), if_neg (mt hredirect.2 h2), if_pos (hindex.1 h)])
    · exact exec_writeRule_refused ht n s (by
        rw [refusal, if_neg (mt hillegal.2 h1), if_neg (mt hredirect.2 h2), if_neg (mt hindex.2 h3),
          if_pos (horder.1 h)])
    · have passed : r.refusal = none := by
        rw [refusal, if_neg (mt hillegal.2 h1), if_neg (mt hredirect.2 h2), if_neg (mt hindex.2 h3),
          if_neg (mt horder.2 h4)]
      obtain rfl : taken = r.clamped := htaken.trans r.clamped_eq.symm
      obtain rfl : stored = r.clamped.stored := hstored.trans r.clamped.stored_eq.symm
      subst ht'
      refine ⟨exec_writeRule_taken ht n s passed, fun tag' ht' => (exec_readRule_index ht' n _).trans ?_⟩
      have read : ({ s with table := s.table.withRule n (some r.clamped.stored) } : State).table.rule n =
          some r.clamped.stored := ClassTable.rule_withRule _ _ _
      simp only [State.replied, State.push, ClassTable.withRule] at read ⊢
      rw [read]
      rfl

end Sys2Proof.Machine

/-!
PROOF. A sample of the key matrix (obligation O25): what is recorded, which changes are accepted, and the stages that
follow.
-/

namespace Sys2Proof.Machine

/-! ## Masks and positions -/

theorem mem_allPositions (p : KeyPos) : p ∈ allPositions := List.mem_finRange p

/-- The positions stand in ascending order. -/
theorem allPositions_pairwise : allPositions.Pairwise fun a b => a.val < b.val :=
  (List.sortedLT_finRange 128).pairwise

theorem getLsbD_foldl_mask (f : KeyPos → Bool) : ∀ (l : List KeyPos) (m : BitVec 128) (o : KeyPos),
    (l.foldl (fun m p => if f p then m ||| BitVec.twoPow 128 p.val else m) m).getLsbD o.val =
      (m.getLsbD o.val || (decide (o ∈ l) && f o))
  | [], m, o => by simp
  | p :: l, m, o => by
    rw [List.foldl_cons, getLsbD_foldl_mask f l]
    simp only [List.mem_cons]
    by_cases here : o = p
    · subst here
      cases f o <;> simp
    · have other : ¬o.val = p.val := fun e => here (Fin.ext e)
      cases f p <;> simp [here, other]

/-- The mask of a test holds exactly where the test does. -/
@[simp] theorem getLsbD_maskWhere (f : KeyPos → Bool) (p : KeyPos) : (maskWhere f).getLsbD p.val = f p := by
  rw [maskWhere, getLsbD_foldl_mask, decide_eq_true (mem_allPositions p)]
  simp

/-- Two masks that agree at every position are one. -/
theorem mask_ext {a b : BitVec 128} (h : ∀ p : KeyPos, a.getLsbD p.val = b.getLsbD p.val) : a = b :=
  BitVec.eq_of_getLsbD_eq fun i hi => h ⟨i, hi⟩

theorem getLsbD_twoPow_position (p o : KeyPos) : (BitVec.twoPow 128 p.val).getLsbD o.val = decide (o = p) := by
  rw [BitVec.getLsbD_twoPow]
  by_cases here : o = p
  · subst here
    simp
  · have : p.val ≠ o.val := fun e => here (Fin.ext e.symm)
    simp [here, this]

/-- A position that leaves a mask. -/
theorem getLsbD_clear (m : BitVec 128) (p o : KeyPos) :
    (m &&& ~~~(BitVec.twoPow 128 p.val)).getLsbD o.val = (m.getLsbD o.val && decide (o ≠ p)) := by
  rw [BitVec.getLsbD_and, BitVec.getLsbD_not, getLsbD_twoPow_position, decide_eq_true o.isLt, Bool.true_and, decide_not]

/-! ## What a sample records (R53, R55) -/

theorem Keyboard.getLsbD_rawIn (k : Keyboard) (raw : BitVec 128) (p : KeyPos) :
    (k.rawIn raw).getLsbD p.val =
      (raw.getLsbD p.val && decide (p.val / 16 < k.settings.rows) && decide (p.val % 16 < k.settings.columns)) := by
  rw [Keyboard.rawIn, BitVec.getLsbD_and, getLsbD_maskWhere, KeyboardSettings.inGeometry, Bool.and_assoc]
  rfl

theorem get_foldl_set (f : KeyPos → Bool) (now : Time) : ∀ (l : List KeyPos) (v : Vector Time 128) (o : KeyPos),
    (l.foldl (fun v p => if f p then v.set p.val now p.isLt else v) v).get o =
      if o ∈ l ∧ f o = true then now else v.get o
  | [], v, o => by simp
  | p :: l, v, o => by
    rw [List.foldl_cons, get_foldl_set f now l]
    simp only [List.mem_cons]
    have set : (v.set p.val now p.isLt).get o = if p.val = o.val then now else v.get o := Vector.getElem_set _ o.isLt
    by_cases here : o = p
    · subst here
      cases f o <;> simp [set]
    · have : p.val ≠ o.val := fun e => here (Fin.ext e.symm)
      cases f p <;> simp [here, set, this]

theorem Keyboard.get_sampledChanges (k : Keyboard) (now : Time) (raw : BitVec 128) (p : KeyPos) :
    (k.sampledChanges now raw).get p =
      if raw.getLsbD p.val = k.previousRaw.getLsbD p.val then k.rawChange.get p else now := by
  rw [Keyboard.sampledChanges, get_foldl_set (fun p => raw.getLsbD p.val != k.previousRaw.getLsbD p.val)]
  by_cases same : raw.getLsbD p.val = k.previousRaw.getLsbD p.val <;> simp [mem_allPositions]

/-! ## The changes accepted (R55) -/

theorem Keyboard.accepts_iff (k : Keyboard) (now : Time) (p : KeyPos) :
    k.accepts now p = true ↔
      k.previousRaw.getLsbD p.val ≠ k.debounced.getLsbD p.val ∧
        k.settings.debounceTime ≤ elapsed now (k.rawChange.get p) := by
  rw [Keyboard.accepts, Bool.and_eq_true, bne_iff_ne, decide_eq_true_eq]

/-- The accepted positions, in ascending order, are one list. -/
theorem accepted_eq {k : Keyboard} {now : Time} {l : List KeyPos} (members : ∀ p, p ∈ l ↔ k.accepts now p = true)
    (order : l.Pairwise fun a b => a.val < b.val) : allPositions.filter (fun p => k.accepts now p) = l := by
  have distinct {m : List KeyPos} (h : m.Pairwise fun a b => a.val < b.val) : m.Nodup :=
    h.imp fun {a b} hab (e : a = b) => Nat.lt_irrefl b.val (by rwa [e] at hab)
  have sorted := allPositions_pairwise.filter fun p => k.accepts now p
  have perm : (allPositions.filter fun p => k.accepts now p).Perm l :=
    (List.perm_ext_iff_of_nodup (distinct sorted) (distinct order)).2 fun p => by
      rw [List.mem_filter, members]
      exact and_iff_right (mem_allPositions p)
  exact perm.eq_of_pairwise (fun a b _ _ hab hba => absurd hba (Nat.lt_asymm hab)) sorted order

/-- The debounced values after the accepted changes. -/
theorem Keyboard.turnOver_eq {k : Keyboard} {now : Time} {d : BitVec 128}
    (h : ∀ p : KeyPos,
      d.getLsbD p.val = if k.accepts now p = true then k.previousRaw.getLsbD p.val else k.debounced.getLsbD p.val) :
    k.debounced ^^^ maskWhere (fun p => k.accepts now p) = d := by
  refine mask_ext fun p => ?_
  rw [BitVec.getLsbD_xor, getLsbD_maskWhere, h]
  by_cases accepted : k.accepts now p = true
  · rw [if_pos accepted, accepted, Bool.xor_true]
    have differs := ((k.accepts_iff now p).1 accepted).1
    exact (Bool.eq_not_of_ne differs).symm
  · rw [if_neg accepted, Bool.eq_false_iff.2 accepted, Bool.xor_false]

/-! ## The stages (R56) -/

theorem Keyboard.sample_of_none {k : Keyboard} {now : Time} {raw : BitVec 128} (muted : Bool)
    (h : allPositions.filter (fun p => (k.recordRaw now raw).accepts now p) = []) :
    k.sample now muted raw = (k.recordRaw now raw, []) := by
  unfold Keyboard.sample
  simp only [h]
  rfl

/-- The stages of a sample whose accepted changes are l, and whose debounced values are d. -/
theorem Keyboard.sample_of_accepted {k k0 : Keyboard} {now : Time} {raw d : BitVec 128} {l : List KeyPos} (muted : Bool)
    (recorded : k0 = k.recordRaw now raw) (accepted : allPositions.filter (fun p => k0.accepts now p) = l)
    (some : l ≠ []) (turned : k0.debounced ^^^ maskWhere (fun p => k0.accepts now p) = d)
    {r2 r3 r4 r5 : Keyboard × List LaneEffect}
    (h2 : r2 = runAll (Keyboard.releaseKey now) (l.filter fun p => k0.debounced.getLsbD p.val)
      { k0 with debounced := d })
    (h3 : r3 = r2.1.promote now r2.1.waiting.length) (h4 : r4 = r3.1.retest now)
    (h5 : r5 = runAll (Keyboard.pressKey now muted) (l.filter fun p => !k0.debounced.getLsbD p.val) r4.1) :
    k.sample now muted raw = (r5.1, r2.2 ++ r3.2 ++ r4.2 ++ r5.2) := by
  subst recorded
  have nonempty : l.isEmpty = false := by simpa using some
  subst h5 h4 h3 h2 turned
  unfold Keyboard.sample
  simp only [accepted, nonempty]
  rfl

theorem exec_keyChangeAccepted {q : LaneId} {s : State} (raw : BitVec 128)
    (on : (s.modes.get q).current.keyboard = true) (later : (s.keyboards.get q).firstSample = false) :
    exec (.keyChangeAccepted q raw) s =
      .next ((s.withKeyboard q
        ((s.keyboards.get q).sample s.time (s.interlocks.conditions.get q).muted raw).1).perform q
          ((s.keyboards.get q).sample s.time (s.interlocks.conditions.get q).muted raw).2).settle := by
  refine congrArg Host.Outcome.next (if_pos ?_)
  rw [on, later]
  rfl

theorem exec_keyChangeAccepted_off {q : LaneId} {s : State} (raw : BitVec 128)
    (h : (s.modes.get q).current.keyboard = false ∨ (s.keyboards.get q).firstSample = true) :
    exec (.keyChangeAccepted q raw) s = .next s := by
  refine congrArg Host.Outcome.next (if_neg ?_)
  rcases h with h | h <;> rw [h] <;> simp

/-- With no key waiting, promotion and re-test of no blocked key do nothing. -/
theorem Keyboard.retest_of_nil {k : Keyboard} (t : Time) (h : k.blocked = []) : k.retest t = (k, []) := by
  have same : { k with blocked := [] } = k := by rw [← h]
  unfold Keyboard.retest
  simp only [h, List.filter_nil, same]
  rfl

theorem Keyboard.promote_of_nil {k : Keyboard} (t : Time) (h : k.waiting = []) :
    k.promote t k.waiting.length = (k, []) := by
  rw [h]
  rfl

theorem Keyboard.releaseKey_waiting (t : Time) (p : KeyPos) {k : Keyboard} (h : k.waiting = []) :
    (k.releaseKey t p).1.waiting = [] := by
  unfold Keyboard.releaseKey
  split
  · exact h
  · simp [h]

theorem Keyboard.releaseKey_blocked (t : Time) (p : KeyPos) {k : Keyboard} (h : k.blocked = []) :
    (k.releaseKey t p).1.blocked = [] := by
  unfold Keyboard.releaseKey
  split
  · exact h
  · simp [h]

/-- With one change accepted and no key held back, the one stage of the change is the sample. -/
theorem Keyboard.sample_of_one {k k0 : Keyboard} {now : Time} {raw : BitVec 128} {p : KeyPos} (muted : Bool)
    (recorded : k0 = k.recordRaw now raw) (waiting : k0.waiting = []) (blocked : k0.blocked = [])
    (one : ∀ o, k0.accepts now o = true ↔ o = p) :
    k.sample now muted raw =
      if k0.debounced.getLsbD p.val = true then
        Keyboard.releaseKey now p { k0 with debounced := k0.debounced ^^^ BitVec.twoPow 128 p.val }
      else Keyboard.pressKey now muted p { k0 with debounced := k0.debounced ^^^ BitVec.twoPow 128 p.val } := by
  have accepted : allPositions.filter (fun o => k0.accepts now o) = [p] :=
    accepted_eq (fun o => by rw [List.mem_singleton, one]) (List.pairwise_singleton _ _)
  have turned : k0.debounced ^^^ maskWhere (fun o => k0.accepts now o) =
      k0.debounced ^^^ BitVec.twoPow 128 p.val := by
    congr 1
    refine mask_ext fun o => ?_
    rw [getLsbD_maskWhere, getLsbD_twoPow_position, Bool.eq_iff_iff, one, decide_eq_true_eq]
  obtain ⟨k1, hk1⟩ : ∃ k1, k1 = { k0 with debounced := k0.debounced ^^^ BitVec.twoPow 128 p.val } := ⟨_, rfl⟩
  have waiting1 : k1.waiting = [] := by rw [hk1]; exact waiting
  have blocked1 : k1.blocked = [] := by rw [hk1]; exact blocked
  rw [Keyboard.sample_of_accepted muted recorded accepted (List.cons_ne_nil _ _) turned rfl rfl rfl rfl, ← hk1]
  cases down : k0.debounced.getLsbD p.val
  · simp only [List.filter_cons, down, List.filter_nil, runAll, Bool.false_eq_true, if_false, Bool.not_false, if_true]
    rw [Keyboard.promote_of_nil now waiting1, Keyboard.retest_of_nil now blocked1]
    simp
  · simp only [List.filter_cons, down, List.filter_nil, runAll, Bool.not_true, Bool.false_eq_true, if_false, if_true]
    rw [Keyboard.promote_of_nil now (Keyboard.releaseKey_waiting now p waiting1),
      Keyboard.retest_of_nil now (Keyboard.releaseKey_blocked now p blocked1)]
    simp

/-- Settles O25: a sample records, accepts and goes through its stages; with one change accepted and no key held back the
stages but one do nothing. -/
theorem matrixSamples : Obligations.MatrixSamples := by
  refine ⟨⟨fun q raw s off => exec_keyChangeAccepted_off raw off,
    fun k now raw => ⟨k.rawIn raw, k.sampledChanges now (k.rawIn raw), rfl, fun p =>
      ⟨k.getLsbD_rawIn raw p, k.get_sampledChanges now _ p⟩⟩, fun g => rfl, fun q raw k s on later hk none => ?_⟩,
    fun q raw k p r s on later hk waiting blocked one hr => ?_,
    fun q raw d k accepted r2 r3 r4 r5 s on later hk members order some hd h2 h3 h4 h5 => ?_,
    fun q raw k s hk on first => ?_, fun q raw s off => ?_⟩
  · have accepted : allPositions.filter (fun p => k.accepts s.time p) = [] := by
      refine List.filter_eq_nil_iff.2 fun p _ accepted => ?_
      obtain ⟨differs, stood⟩ := (k.accepts_iff s.time p).1 accepted
      rcases none p with same | early
      · exact differs same
      · exact absurd stood (Nat.not_le.2 early)
    rw [exec_keyChangeAccepted raw on later, Keyboard.sample_of_none _ (hk ▸ accepted), ← hk]
    rfl
  · have accepts (o : KeyPos) : k.accepts s.time o = true ↔ o = p := (k.accepts_iff s.time o).trans (one o).symm
    rw [exec_keyChangeAccepted raw on later, Keyboard.sample_of_one _ hk waiting blocked accepts, ← hr]
  · have accepts (o : KeyPos) : o ∈ accepted ↔ k.accepts s.time o = true :=
      (members o).trans (k.accepts_iff s.time o).symm
    have turned : k.debounced ^^^ maskWhere (fun o => k.accepts s.time o) = d :=
      Keyboard.turnOver_eq fun o => by simp only [hd o, accepts o]
    rw [exec_keyChangeAccepted raw on later,
      Keyboard.sample_of_accepted _ hk (accepted_eq accepts order) some turned h2 h3 h4 h5]
  · subst hk
    refine ⟨_, _, congrArg Host.Outcome.next (if_pos (by rw [on, first]; rfl)), fun p => ⟨?_, ?_⟩⟩
    · exact Keyboard.getLsbD_rawIn _ raw p
    · rw [BitVec.getLsbD_and, getLsbD_maskWhere]
      rfl
  · refine congrArg Host.Outcome.next (if_neg ?_)
    rcases off with h | h <;> rw [h] <;> simp

end Sys2Proof.Machine

/-!
PROOF. The transitions of keys (obligations O26, O27): presses and releases, what a block hands on, promotion, re-test
and the order of the blocked keys.
-/

namespace Sys2Proof.Machine

/-! ## A press and a release (R59 to R61) -/

section
variable {k : Keyboard} {p : KeyPos} (t : Time) (muted : Bool)

theorem Keyboard.pressKey_ignored (h : (k.entry p).code = 0) : k.pressKey t muted p = (k, []) := if_pos h

theorem Keyboard.pressKey_muted (h : (k.entry p).code ≠ 0) :
    k.pressKey t true p =
      ({ k with
          absorbed := k.absorbed ||| BitVec.twoPow 128 p.val
          counters := { k.counters with muted := k.counters.muted + 1 } }, []) := if_neg h

theorem Keyboard.pressKey_suspect (h : (k.entry p).code ≠ 0) (hs : k.suspect p = true) :
    k.pressKey t false p =
      ({ k with
          blocked := k.blocked ++ [{ position := p, pressTime := t }]
          counters := { k.counters with ghostBlocks := k.counters.ghostBlocks + 1 } }, []) :=
  (if_neg h).trans ((if_neg Bool.false_ne_true).trans (if_pos hs))

theorem Keyboard.pressKey_clear (h : (k.entry p).code ≠ 0) (hs : k.suspect p = false) :
    k.pressKey t false p = k.rollover t p :=
  (if_neg h).trans ((if_neg Bool.false_ne_true).trans (if_neg (Bool.eq_false_iff.1 hs)))

theorem Keyboard.rollover_room (h : k.reported.length < k.settings.rolloverLimit) : k.rollover t p = k.report t p :=
  if_pos (decide_eq_true h)

theorem Keyboard.rollover_full (h : k.settings.rolloverLimit ≤ k.reported.length) :
    k.rollover t p =
      ({ k with
          waiting := k.waiting ++ [p]
          counters := { k.counters with rolloverHolds := k.counters.rolloverHolds + 1 } }, []) :=
  if_neg (by rw [Keyboard.hasRoom, decide_eq_true_eq]; exact Nat.not_lt.2 h)

theorem Keyboard.rollover_eq :
    k.rollover t p =
      if k.reported.length < k.settings.rolloverLimit then k.report t p
      else
        ({ k with
            waiting := k.waiting ++ [p]
            counters := { k.counters with rolloverHolds := k.counters.rolloverHolds + 1 } }, []) := by
  split
  · exact k.rollover_room t ‹_›
  · exact k.rollover_full t (Nat.le_of_not_lt ‹_›)

end

/-- The one reported key at a position, taken out. -/
theorem filter_position {before after : List ReportedKey} {r : ReportedKey} {p : KeyPos} (here : r.position = p)
    (away : ∀ x ∈ before, x.position ≠ p) (away' : ∀ x ∈ after, x.position ≠ p) :
    (before ++ r :: after).filter (fun x => x.position != p) = before ++ after := by
  have keeps {l : List ReportedKey} (h : ∀ x ∈ l, x.position ≠ p) : l.filter (fun x => x.position != p) = l :=
    List.filter_eq_self.2 fun x hx => bne_iff_ne.2 (h x hx)
  rw [List.filter_append, List.filter_cons, keeps away, keeps away', if_neg (by simp [here])]

theorem Keyboard.releaseKey_reported (t : Time) {k : Keyboard} {p : KeyPos} {before after : List ReportedKey}
    {r : ReportedKey} (held : k.reported = before ++ r :: after) (here : r.position = p)
    (away : ∀ x ∈ before, x.position ≠ p) (away' : ∀ x ∈ after, x.position ≠ p) :
    k.releaseKey t p =
      ({ k with reported := before ++ after, typematic := k.typematic.filter fun x => x.position != p },
        [.produce t (.key .release p r.entry.code)]) := by
  have found : k.reported.find? (fun x => x.position == p) = some r := by
    rw [List.find?_eq_some_iff_append]
    exact ⟨beq_iff_eq.2 here, before, after, held, fun x hx => by simpa using away x hx⟩
  unfold Keyboard.releaseKey
  rw [found]
  simp only [held, filter_position here away away']

theorem Keyboard.releaseKey_other (t : Time) {k : Keyboard} {p : KeyPos} (away : ∀ x ∈ k.reported, x.position ≠ p) :
    k.releaseKey t p =
      ({ k with
          waiting := k.waiting.filter fun x => x != p
          blocked := k.blocked.filter fun x => x.position != p
          absorbed := k.absorbed &&& ~~~(BitVec.twoPow 128 p.val) }, []) := by
  have none : k.reported.find? (fun x => x.position == p) = none :=
    List.find?_eq_none.2 fun x hx => by simpa using away x hx
  unfold Keyboard.releaseKey
  rw [none]

/-! ## What a block hands on -/

theorem State.perform_append (s : State) (q : LaneId) (l m : List LaneEffect) :
    s.perform q (l ++ m) = (s.perform q l).perform q m := List.foldl_append

/-- Settles O26: the five cases of a press, the two of a release, and the handing on, one effect at a time. -/
theorem keyTransitions : Obligations.KeyTransitions := by
  refine ⟨fun t muted p k e he => ?_, fun t p k => ⟨fun before after r held here away away' => ?_, fun away =>
      ⟨_, k.releaseKey_other t away, getLsbD_clear _ p⟩⟩,
    fun q s => rfl, fun q l m s => s.perform_append q l m, fun q t e s => rfl, fun q s => rfl,
    fun q o c s => by rw [State.withChecker_checkers, Lanes.get_set]⟩
  · subst he
    refine ⟨fun ignored => k.pressKey_ignored t muted ignored, fun used isMuted => ?_, fun used unmuted ghost => ?_,
      fun used unmuted clear room => ?_, fun used unmuted clear full => ?_⟩
    · rw [isMuted]
      exact k.pressKey_muted t used
    · rw [unmuted]
      exact k.pressKey_suspect t used ghost
    · rw [unmuted, Keyboard.pressKey_clear t used clear, Keyboard.rollover_room t room]
      rfl
    · rw [unmuted, Keyboard.pressKey_clear t used clear, Keyboard.rollover_full t full]
  · rw [Keyboard.releaseKey_reported t held here away away']
    congr 2
    cases k.typematic with
    | none => rfl
    | some m => by_cases same : m.position = p <;> simp [Option.filter, same]

/-! ## Ghosts (R63) -/

theorem Keyboard.suspect_iff (k : Keyboard) (row : Fin 8) (column : Fin 16) {p : KeyPos}
    (hp : p.val = row.val * 16 + column.val) :
    k.suspect p = true ↔
      ∃ (row' : Fin 8) (column' : Fin 16), row' ≠ row ∧ column' ≠ column ∧
        k.debounced.getLsbD (row.val * 16 + column'.val) = true ∧
        k.debounced.getLsbD (row'.val * 16 + column.val) = true ∧
        k.debounced.getLsbD (row'.val * 16 + column'.val) = true := by
  have hr : rowOf p = row.val := by unfold rowOf; omega
  have hc : columnOf p = column.val := by unfold columnOf; omega
  simp only [Keyboard.suspect, hr, hc, List.any_eq_true, List.mem_range, Bool.and_eq_true, bne_iff_ne]
  constructor
  · rintro ⟨r, r8, c, c16, ⟨⟨⟨rne, cne⟩, down1⟩, down2⟩, down3⟩
    exact ⟨⟨r, r8⟩, ⟨c, c16⟩, fun e => rne (congrArg Fin.val e), fun e => cne (congrArg Fin.val e), down1, down2, down3⟩
  · rintro ⟨r, c, rne, cne, down1, down2, down3⟩
    exact ⟨r.val, r.isLt, c.val, c.isLt, ⟨⟨⟨fun e => rne (Fin.ext e), fun e => cne (Fin.ext e)⟩, down1⟩, down2⟩, down3⟩

/-! ## Promotion (R62) -/

/-- The waiting keys promoted are reported one after another, oldest first, as many as there is room for. -/
theorem Keyboard.promote_eq (t : Time) : ∀ (l : List KeyPos) (k : Keyboard), k.waiting = l →
    k.promote t l.length =
      runAll (Keyboard.report t) (l.take (min l.length (k.settings.rolloverLimit - k.reported.length)))
        { k with waiting := l.drop (min l.length (k.settings.rolloverLimit - k.reported.length)) }
  | [], k, h => by
    have same : { k with waiting := [] } = k := by rw [← h]
    simp only [List.length_nil, Nat.zero_min, List.take_nil, List.drop_nil, same]
    rfl
  | p :: rest, k, h => by
    have same : { k with waiting := p :: rest } = k := by rw [← h]
    rw [List.length_cons, Keyboard.promote, h]
    by_cases room : k.reported.length < k.settings.rolloverLimit
    · have ih := Keyboard.promote_eq t rest (Keyboard.report t p { k with waiting := rest }).1 rfl
      have length : (Keyboard.report t p { k with waiting := rest }).1.reported.length = k.reported.length + 1 :=
        (perm_insertReported _ k.reported).length_eq
      have limit : (Keyboard.report t p { k with waiting := rest }).1.settings = k.settings := rfl
      have one : min (rest.length + 1) (k.settings.rolloverLimit - k.reported.length) =
          min rest.length (k.settings.rolloverLimit - (k.reported.length + 1)) + 1 := by omega
      rw [length, limit] at ih
      rw [one, List.take_succ_cons, List.drop_succ_cons]
      simp only [Keyboard.hasRoom, decide_eq_true room, if_true, ih]
      rfl
    · have none : min (rest.length + 1) (k.settings.rolloverLimit - k.reported.length) = 0 := by omega
      rw [none, List.take_zero, List.drop_zero, same]
      simp only [Keyboard.hasRoom, decide_eq_false room, Bool.false_eq_true, if_false]
      rfl

/-- What a run of reports leaves: each key is one more in the set and one more PRESS. -/
theorem Keyboard.runAll_report (t : Time) : ∀ (l : List KeyPos) (k : Keyboard),
    (runAll (Keyboard.report t) l k).1.waiting = k.waiting ∧
    (runAll (Keyboard.report t) l k).1.blocked = k.blocked ∧
      (runAll (Keyboard.report t) l k).1.settings = k.settings ∧
      (runAll (Keyboard.report t) l k).1.reported.length = k.reported.length + l.length ∧
      (runAll (Keyboard.report t) l k).1.counters.presses = k.counters.presses + BitVec.ofNat 32 l.length ∧
      ((runAll (Keyboard.report t) l k).2.filter fun x => x != .emptyRecent) =
        l.map fun p => .produce t (.key .press p (k.keyTable.get p).code)
  | [], k => ⟨rfl, rfl, rfl, rfl, (BitVec.add_zero _).symm, rfl⟩
  | p :: l, k => by
    obtain ⟨waiting, blocked, settings, length, presses, effects⟩ := Keyboard.runAll_report t l (k.report t p).1
    have one : (k.report t p).1.reported.length = k.reported.length + 1 := (perm_insertReported _ k.reported).length_eq
    have press : ((k.report t p).2.filter fun x => x != .emptyRecent) =
        [.produce t (.key .press p (k.keyTable.get p).code)] := by
      simp only [Keyboard.report, Keyboard.entry]
      by_cases releases : (k.keyTable.get p).repeatRelease = true <;> simp [releases]
    refine ⟨waiting, blocked, settings, ?_, ?_, ?_⟩
    · rw [runAll, length, one, List.length_cons]
      omega
    · rw [runAll, presses, List.length_cons, Nat.add_comm, BitVec.ofNat_add, ← BitVec.add_assoc]
      rfl
    · rw [runAll, List.filter_append, press, effects]
      rfl

/-! ## Re-test (R64) -/

theorem Keyboard.retest_eq (t : Time) (k : Keyboard) :
    k.retest t =
      runAll (fun (b : BlockedKey) (x : Keyboard) => x.rollover t b.position)
        (k.blocked.filter fun b => !k.suspect b.position)
        { k with blocked := k.blocked.filter fun b => k.suspect b.position } := rfl

theorem Keyboard.retest_none (t : Time) {k : Keyboard} (h : ∀ b ∈ k.blocked, k.suspect b.position = true) :
    k.retest t = (k, []) := by
  have stay : k.blocked.filter (fun b => k.suspect b.position) = k.blocked := List.filter_eq_self.2 h
  have freed : k.blocked.filter (fun b => !k.suspect b.position) = [] :=
    List.filter_eq_nil_iff.2 fun b hb => by simp [h b hb]
  rw [Keyboard.retest_eq, freed, stay]
  rfl

theorem Keyboard.retest_one (t : Time) {k : Keyboard} {before after : List BlockedKey} {b : BlockedKey}
    (held : k.blocked = before ++ b :: after) (free : k.suspect b.position = false)
    (stay : ∀ x ∈ before, k.suspect x.position = true) (stay' : ∀ x ∈ after, k.suspect x.position = true) :
    k.retest t = Keyboard.rollover t b.position { k with blocked := before ++ after } := by
  have keeps {l : List BlockedKey} (h : ∀ x ∈ l, k.suspect x.position = true) :
      l.filter (fun x => k.suspect x.position) = l ∧ l.filter (fun x => !k.suspect x.position) = [] :=
    ⟨List.filter_eq_self.2 h, List.filter_eq_nil_iff.2 fun x hx => by simp [h x hx]⟩
  rw [Keyboard.retest_eq, held, List.filter_append, List.filter_append, List.filter_cons, List.filter_cons,
    (keeps stay).1, (keeps stay).2, (keeps stay').1, (keeps stay').2, free]
  simp [runAll]

/-! ## The order of the blocked keys (R64) -/

/-- One key is blocked before another, seen from a moment. -/
def BlockedBefore (now : Time) (a b : BlockedKey) : Prop :=
  elapsed now b.pressTime < elapsed now a.pressTime ∨ (a.pressTime = b.pressTime ∧ a.position.val < b.position.val)

theorem inPressOrder_iff (now : Time) (l : List BlockedKey) : InPressOrder now l ↔ l.Pairwise (BlockedBefore now) :=
  Iff.rfl

theorem BlockedBefore.asymm {now : Time} {a b : BlockedKey} (h : BlockedBefore now a b) : ¬BlockedBefore now b a := by
  rintro back
  rcases h with earlier | ⟨same, below⟩ <;> rcases back with earlier' | ⟨same', below'⟩
  · omega
  · rw [same'] at earlier
    omega
  · rw [same] at earlier'
    omega
  · omega

theorem InPressOrder.filter {now : Time} {l : List BlockedKey} (h : InPressOrder now l) (f : BlockedKey → Bool) :
    InPressOrder now (l.filter f) := List.Pairwise.filter f h

/-- Two orders of the same keys are one. -/
theorem InPressOrder.eq_of_perm {now : Time} {l m : List BlockedKey} (hl : InPressOrder now l)
    (hm : InPressOrder now m) (h : l.Perm m) : l = m :=
  h.eq_of_pairwise (fun _ _ _ _ hab hba => absurd hba (BlockedBefore.asymm hab)) hl hm

theorem elapsed_eq_zero {now t : Time} (h : elapsed now t = 0) : t = now := by
  unfold elapsed at h
  have : now - t = 0#32 := BitVec.eq_of_toNat_eq h
  rw [BitVec.sub_eq_iff_eq_add, BitVec.zero_add] at this
  exact this.symm

/-- The blocked keys with the presses of a sample still to come: they stand in order, and those of this moment before
the presses to come. -/
def Keyboard.BlockedUpTo (now : Time) (l : List KeyPos) (k : Keyboard) : Prop :=
  InPressOrder now k.blocked ∧ ∀ b ∈ k.blocked, b.pressTime = now → ∀ p ∈ l, b.position.val < p.val

theorem Keyboard.rollover_blocked (t : Time) (p : KeyPos) (k : Keyboard) : (k.rollover t p).1.blocked = k.blocked := by
  unfold Keyboard.rollover
  split <;> rfl

theorem Keyboard.runAll_pressKey_order (now : Time) (muted : Bool) : ∀ (l : List KeyPos) (k : Keyboard),
    (l.Pairwise fun a b => a.val < b.val) → k.BlockedUpTo now l →
    InPressOrder now (runAll (Keyboard.pressKey now muted) l k).1.blocked
  | [], _, _, h => h.1
  | p :: l, k, order, ⟨inOrder, before⟩ => by
    rw [List.pairwise_cons] at order
    obtain ⟨first, rest⟩ := order
    have later : k.BlockedUpTo now l := ⟨inOrder, fun b hb ht o ho => before b hb ht o (List.mem_cons_of_mem _ ho)⟩
    refine Keyboard.runAll_pressKey_order now muted l (k.pressKey now muted p).1 rest ?_
    unfold Keyboard.pressKey
    split
    · exact later
    · split
      · exact later
      · split
        · refine ⟨List.pairwise_append.2 ⟨inOrder, List.pairwise_singleton _ _, fun a ha b hb => ?_⟩,
            fun b hb ht o ho => ?_⟩
          · obtain rfl := List.mem_singleton.1 hb
            by_cases this : a.pressTime = now
            · exact Or.inr ⟨this, before a ha this p List.mem_cons_self⟩
            · refine Or.inl ?_
              show elapsed now now < elapsed now a.pressTime
              rw [elapsed_self]
              exact Nat.pos_of_ne_zero fun zero => this (elapsed_eq_zero zero)
          · rcases List.mem_append.1 hb with old | new
            · exact before b old ht o (List.mem_cons_of_mem _ ho)
            · rw [List.mem_singleton.1 new]
              exact first o ho
        · unfold Keyboard.BlockedUpTo
          rw [Keyboard.rollover_blocked]
          exact later

theorem Keyboard.releaseKey_blocked_sublist (t : Time) (p : KeyPos) (k : Keyboard) :
    (k.releaseKey t p).1.blocked.Sublist k.blocked := by
  unfold Keyboard.releaseKey
  split
  · exact List.Sublist.refl _
  · exact List.filter_sublist

theorem Keyboard.promote_blocked (t : Time) (k : Keyboard) :
    (k.promote t k.waiting.length).1.blocked = k.blocked := by
  rw [Keyboard.promote_eq t k.waiting k rfl, (Keyboard.runAll_report t _ _).2.1]

theorem Keyboard.retest_blocked_sublist (t : Time) (k : Keyboard) : (k.retest t).1.blocked.Sublist k.blocked := by
  rw [Keyboard.retest_eq]
  refine runAll_keeps (P := fun x : Keyboard => x.blocked.Sublist k.blocked) (fun b x hx => ?_) _ _ List.filter_sublist
  rw [Keyboard.rollover_blocked]
  exact hx

/-- The stages of a sample keep the blocked keys in order. -/
theorem Keyboard.sample_order {k : Keyboard} {now : Time} (muted : Bool) (raw : BitVec 128)
    (h : InPressOrder now k.blocked) (past : ∀ b ∈ k.blocked, b.pressTime ≠ now) :
    InPressOrder now (k.sample now muted raw).1.blocked := by
  unfold Keyboard.sample
  simp only
  split
  · exact h
  · refine Keyboard.runAll_pressKey_order now muted _ _ ((allPositions_pairwise.filter _).filter _) ?_
    have released := runAll_keeps (P := fun x : Keyboard => x.blocked.Sublist k.blocked)
      (fun p x hx => (x.releaseKey_blocked_sublist now p).trans hx)
      ((allPositions.filter fun p => (k.recordRaw now raw).accepts now p).filter fun p => (k.recordRaw now raw).down p)
      { k.recordRaw now raw with
        debounced := (k.recordRaw now raw).debounced ^^^ maskWhere fun p => (k.recordRaw now raw).accepts now p }
      (List.Sublist.refl _)
    have left := (Keyboard.retest_blocked_sublist now _).trans (((Keyboard.promote_blocked now _).symm ▸ released :))
    exact ⟨h.sublist left, fun b hb ht => absurd ht (past b (left.subset hb))⟩

/-- Nothing that settles changes blocked keys, but the start of a mute, which empties them. -/
theorem blockedOrder_kept (q : LaneId) (now : Time) :
    KeptByBlocks fun t => InPressOrder now (t.keyboards.get q).blocked := by
  constructor
  case toKeptByEvents => constructor <;> (intros; assumption)
  case muted =>
    intro s r h
    rw [State.withKeyboard_keyboards, Lanes.get_set]
    split
    · exact List.Pairwise.nil
    · exact h
  all_goals intros; assumption

theorem State.keyChange_order {q : LaneId} {raw : BitVec 128} {s t : State}
    (run : exec (.keyChangeAccepted q raw) s = .next t) (h : InPressOrder s.time (s.keyboards.get q).blocked)
    (past : ∀ b ∈ (s.keyboards.get q).blocked, b.pressTime ≠ s.time) :
    InPressOrder s.time (t.keyboards.get q).blocked := by
  by_cases on : (s.modes.get q).current.keyboard = true ∧ (s.keyboards.get q).firstSample = false
  · rw [exec_keyChangeAccepted raw on.1 on.2] at run
    cases run
    refine State.settle_keeps (blockedOrder_kept q s.time) _ (State.perform_keeps (blockedOrder_kept q s.time) q _ _ ?_)
    rw [State.withKeyboard_keyboards, Lanes.get_set_self]
    exact Keyboard.sample_order _ raw h past
  · have off : (s.modes.get q).current.keyboard = false ∨ (s.keyboards.get q).firstSample = true := by
      rw [not_and_or, Bool.not_eq_true, Bool.not_eq_false] at on
      exact on
    rw [exec_keyChangeAccepted_off raw off] at run
    cases run
    exact h

/-- Settles O27: promotion is a run of reports, and a re-test a run of rollovers over the blocked keys freed. -/
theorem ghostsAndPromotion : Obligations.GhostsAndPromotion := by
  refine ⟨fun k row column p hp => k.suspect_iff row column hp, ⟨fun t k => ?_, fun t k all => k.retest_none t all,
    fun t k before after b held free stay stay' => ?_, fun t k n hn => ?_, fun t k within => ?_,
    fun t k l perm order order' => ?_, fun q raw s t run h past => State.keyChange_order run h past⟩,
    fun α f a l k => ⟨rfl, rfl⟩, fun t p k e he => ?_, fun r l => perm_insertReported r l⟩
  · obtain ⟨waiting, -, settings, length, presses, effects⟩ := Keyboard.runAll_report t
      (k.waiting.take (min k.waiting.length (k.settings.rolloverLimit - k.reported.length)))
      { k with waiting := k.waiting.drop (min k.waiting.length (k.settings.rolloverLimit - k.reported.length)) }
    rw [List.length_take_of_le (Nat.min_le_left _ _)] at length presses
    rw [Keyboard.promote_eq t k.waiting k rfl]
    refine ⟨_, Nat.min_le_left _ _, waiting, length, presses, effects, ?_⟩
    rw [length]
    show _ ∨ _ ≤ k.reported.length + _
    omega
  · rw [Keyboard.retest_one t held free stay stay', Keyboard.rollover_eq]
  · rw [Keyboard.promote_eq t k.waiting k rfl, ← hn]
  · rw [Keyboard.promote_eq t k.waiting k rfl, (Keyboard.runAll_report t _ _).2.2.2.1,
      List.length_take_of_le (Nat.min_le_left _ _)]
    show k.reported.length + _ ≤ _
    omega
  · have freed : l = k.blocked.filter fun b => !k.suspect b.position :=
      order'.eq_of_perm (order.filter _) perm
    rw [Keyboard.retest_eq, ← freed]
    congr 1
    funext b x
    exact Keyboard.rollover_eq t
  · subst he
    rfl

end Sys2Proof.Machine

/-!
PROOF. The typematic key, mutes and the key lock (obligations O28, O29) and SET_KEYBOARD (O30).
-/

namespace Sys2Proof.Machine

@[simp] theorem State.withKeyboard_self (s : State) (q : LaneId) : s.withKeyboard q (s.keyboards.get q) = s := by
  unfold State.withKeyboard
  rw [Lanes.set_get_self]

/-! ## The typematic test (R65) -/

theorem Keyboard.typematicTest_due {k : Keyboard} {now : Time} {m : Typematic} {r : ReportedKey}
    (hm : k.typematic = some m) (due : reached now m.nextRepeat = true)
    (hr : k.reported.find? (fun x => x.position == m.position) = some r) :
    k.typematicTest now =
      ({ k with
          typematic :=
            some { position := m.position, nextRepeat := now + BitVec.ofNat 32 k.settings.typematicInterval } },
        [.produce now (.key .repeated m.position r.entry.code)]) := by
  unfold Keyboard.typematicTest
  rw [hm]
  simp only [due, if_true, hr]
  rfl

theorem Keyboard.typematicTest_early {k : Keyboard} {now : Time}
    (h : ∀ m, k.typematic = some m → reached now m.nextRepeat = false) : k.typematicTest now = (k, []) := by
  unfold Keyboard.typematicTest
  split
  · rfl
  · rename_i m hm
    exact if_neg (Bool.eq_false_iff.1 (h m hm))

/-! ## Mutes (R66, R67) -/

theorem State.handEffect_mute_on {s : State} {q : LaneId} (on : (s.modes.get q).current.keyboard = true) :
    s.handEffect ((q, .mute), true) = s.keyboardDoes q (Keyboard.muteStart s.time) := if_pos on

theorem State.handEffect_mute_off {s : State} {q : LaneId} (off : (s.modes.get q).current.keyboard = false) :
    s.handEffect ((q, .mute), true) = s := if_neg (Bool.eq_false_iff.1 off)

theorem Keyboard.getLsbD_muteAbsorbed (k : Keyboard) (p : KeyPos) :
    (k.absorbed ||| (k.debounced &&& maskWhere fun o => decide ((k.entry o).code ≠ 0))).getLsbD p.val =
      (k.absorbed.getLsbD p.val || (k.debounced.getLsbD p.val && decide ((k.keyTable.get p).code ≠ 0))) := by
  rw [BitVec.getLsbD_or, BitVec.getLsbD_and, getLsbD_maskWhere]
  rfl

/-- Settles O28: the typematic test by whether the key is due, a mute by the KEYBOARD enable. -/
theorem repeatsAndMutes : Obligations.RepeatsAndMutes := by
  refine ⟨⟨fun q k m r s hk hm due hr => ?_, fun q s early => ?_⟩, fun q k s hk on => ?_,
    fun q s off => State.handEffect_mute_off off, fun q s => rfl⟩
  · subst hk
    refine congrArg (fun t : State => Host.Outcome.next t.settle) ?_
    unfold State.keyboardDoes
    rw [Keyboard.typematicTest_due hm due hr]
    rfl
  · refine congrArg (fun t : State => Host.Outcome.next t.settle) ?_
    unfold State.keyboardDoes
    rw [Keyboard.typematicTest_early early]
    exact s.withKeyboard_self q
  · subst hk
    exact ⟨_, State.handEffect_mute_on on, Keyboard.getLsbD_muteAbsorbed _⟩

/-! ## The key lock (R71 to R73) -/

section
variable {k : Keyboard} {now c : Time} {i : BitVec 4}
  (hc : c = if k.keylock.previousRaw = none ∨ k.keylock.previousRaw = some i then k.keylock.rawChange else now)
include hc

/-- The raw-change time after a sample of the key lock. -/
theorem Keyboard.keylockSample_record :
    k.keylockSample now i =
      if k.keylock.debounced ≠ some i ∧ k.settings.keylockCount * 10 ≤ elapsed now c then
        match keylockNamed i with
        | some pos =>
          ({ k with
              keylock :=
                { position := pos, previousRaw := some i, debounced := some i, rawChange := c, faultTimer := none } },
            if k.keylock.position = pos then [] else [.produce now (.keylockPosition pos)])
        | none =>
          ({ k with
              keylock :=
                { position := k.keylock.position, previousRaw := some i, debounced := some i, rawChange := c,
                  faultTimer := k.keylock.timerAtInvalid now } }, [])
      else ({ k with keylock := { k.keylock with previousRaw := some i, rawChange := c } }, []) := by
  have change : (match k.keylock.previousRaw with
      | none => k.keylock.rawChange
      | some r => if r = i then k.keylock.rawChange else now) = c := by
    rw [hc]
    cases k.keylock.previousRaw with
    | none => simp
    | some r => by_cases same : r = i <;> simp [same]
  subst change
  unfold Keyboard.keylockSample
  rfl

end

theorem keylockNamed_of_mem {i : BitVec 4} {pos : KeylockPos}
    (h : (i, pos) ∈ [((1 : BitVec 4), KeylockPos.lock), (2, .sale), (4, .supervisor), (8, .service)]) :
    keylockNamed i = some pos := by
  simp only [List.mem_cons, Prod.mk.injEq, List.not_mem_nil, or_false] at h
  rcases h with ⟨rfl, rfl⟩ | ⟨rfl, rfl⟩ | ⟨rfl, rfl⟩ | ⟨rfl, rfl⟩ <;> rfl

theorem keylockNamed_eq_none_iff {i : BitVec 4} : keylockNamed i = none ↔ i ≠ 1 ∧ i ≠ 2 ∧ i ≠ 4 ∧ i ≠ 8 := by
  revert i
  decide

theorem Keylock.isInvalid_iff {l : Keylock} :
    l.isInvalid = true ↔ ∃ j, l.debounced = some j ∧ j ≠ 1 ∧ j ≠ 2 ∧ j ≠ 4 ∧ j ≠ 8 := by
  rw [Keylock.isInvalid, Option.any_eq_true]
  simp only [Option.isNone_iff_eq_none, keylockNamed_eq_none_iff]

/-- The fault timer after an invalid pattern: as it is in a lock already at fault, and running otherwise. -/
theorem Keylock.timerAtInvalid_eq {l : Keylock} {now : Time} {timer : Option Time} {faulted : Prop}
    (hf : faulted ↔ l.position = .unknown ∧ ∃ j, l.debounced = some j ∧ j ≠ 1 ∧ j ≠ 2 ∧ j ≠ 4 ∧ j ≠ 8)
    (stays : faulted → timer = l.faultTimer)
    (runs : ¬faulted → timer = match l.faultTimer with | some t => some t | none => some now) :
    l.timerAtInvalid now = timer := by
  rw [← Keylock.isInvalid_iff] at hf
  unfold Keylock.timerAtInvalid
  by_cases atFault : faulted
  · rw [if_pos (hf.1 atFault), stays atFault]
  · rw [if_neg (mt hf.2 atFault), runs atFault]
    cases l.faultTimer <;> rfl

theorem Keyboard.keylockFaultTest_due {k : Keyboard} {now start : Time} {i : BitVec 4}
    (ht : k.keylock.faultTimer = some start) (hi : k.keylock.debounced = some i)
    (due : k.settings.keylockFaultTime ≤ elapsed now start) :
    k.keylockFaultTest now =
      ({ k with keylock := { k.keylock with faultTimer := none, position := .unknown } },
        [.produce now (.keylockFault k.keylock.position i)]) := by
  unfold Keyboard.keylockFaultTest
  rw [ht]
  simp only [due, if_true, hi, Option.getD_some]

theorem Keyboard.keylockFaultTest_early {k : Keyboard} {now : Time}
    (h : ∀ t, k.keylock.faultTimer = some t → elapsed now t < k.settings.keylockFaultTime) :
    k.keylockFaultTest now = (k, []) := by
  unfold Keyboard.keylockFaultTest
  split
  · rfl
  · rename_i t ht
    exact if_neg (Nat.not_le.2 (h t ht))

/-- An input of the Key Matrix Unit that produces no event. -/
theorem State.keyboardDoes_silent {s : State} {q : LaneId} {f : Keyboard → Keyboard × List LaneEffect} {k : Keyboard}
    (h : f (s.keyboards.get q) = (k, [])) : s.keyboardDoes q f = s.withKeyboard q k := by
  unfold State.keyboardDoes
  rw [h]
  rfl

/-- An input of the Key Matrix Unit that produces one event. -/
theorem State.keyboardDoes_event {s : State} {q : LaneId} {f : Keyboard → Keyboard × List LaneEffect} {k : Keyboard}
    {t : Time} {e : EventBody} (h : f (s.keyboards.get q) = (k, [.produce t e])) :
    s.keyboardDoes q f = (s.withKeyboard q k).produce q t e := by
  unfold State.keyboardDoes
  rw [h]
  rfl

theorem exec_keylockPatternAccepted {q : LaneId} {i : BitVec 4} {s t : State}
    (h : s.keyboardDoes q (Keyboard.keylockSample s.time i) = t) :
    exec (.keylockPatternAccepted q i) s = .next t.settle := congrArg (fun x : State => Host.Outcome.next x.settle) h

theorem exec_keylockFault {q : LaneId} {s t : State} (h : s.keyboardDoes q (Keyboard.keylockFaultTest s.time) = t) :
    exec (.keylockFault q) s = .next t.settle := congrArg (fun x : State => Host.Outcome.next x.settle) h

/-- Settles O29: the sample by whether the pattern is accepted and names a position, the fault test by the timer. -/
theorem keylockSampled : Obligations.KeylockSampled := by
  refine ⟨fun q i k l c s hk hl hc => ?_, fun q k start i s hk ht hi due => ?_, fun q s early => ?_⟩
  · subst hk hl
    have sampled := Keyboard.keylockSample_record hc
    refine ⟨fun h => ?_, fun fresh stood => ⟨fun pos named => ⟨fun moved => ?_, fun same => ?_⟩,
      fun invalid faulted timer hf stays runs => ?_⟩⟩
    · rw [if_neg (by rintro ⟨fresh, stood⟩; rcases h with h | h; exacts [fresh h, Nat.not_le.2 h stood])] at sampled
      exact exec_keylockPatternAccepted (State.keyboardDoes_silent sampled)
    · rw [if_pos ⟨fresh, stood⟩, keylockNamed_of_mem named] at sampled
      simp only [if_neg moved] at sampled
      exact exec_keylockPatternAccepted (State.keyboardDoes_event sampled)
    · rw [if_pos ⟨fresh, stood⟩, keylockNamed_of_mem named] at sampled
      simp only [if_pos same] at sampled
      exact exec_keylockPatternAccepted (State.keyboardDoes_silent sampled)
    · rw [if_pos ⟨fresh, stood⟩, keylockNamed_eq_none_iff.2 invalid, Keylock.timerAtInvalid_eq hf stays runs] at sampled
      exact exec_keylockPatternAccepted (State.keyboardDoes_silent sampled)
  · subst hk
    exact exec_keylockFault (State.keyboardDoes_event (Keyboard.keylockFaultTest_due ht hi due))
  · exact exec_keylockFault
      ((State.keyboardDoes_silent (Keyboard.keylockFaultTest_early early)).trans (s.withKeyboard_self q))

/-! ## SET_KEYBOARD (R75, R76) -/

theorem exec_setKeyboard (tag : Byte) (b : List Byte) (s : State) :
    exec (.setKeyboard tag b) s = .next (s.takeWith 0x07 tag b setKeyboardRule) := rfl

/-- The nine settings of a body. -/
theorem keyboardSettingsAt_body (q : LaneId) (r c grain n ro kc : Byte) (td ti kf : Half) :
    keyboardSettingsAt
        ([laneByte q, r, c, grain, n, ro] ++ halfBytes td ++ halfBytes ti ++ [kc] ++ halfBytes kf) =
      { rows := r.toNat, columns := c.toNat, grain10 := flagOf grain, debounceCount := n.toNat,
        rolloverLimit := ro.toNat, typematicDelay := td.toNat, typematicInterval := ti.toNat,
        keylockCount := kc.toNat, keylockFaultTime := kf.toNat } := by
  simp [keyboardSettingsAt, natAt, nat2At, halfBytes, halfAt_cons_cons]

theorem KeyboardSettings.restarts_iff (old new : KeyboardSettings) :
    old.restarts new = true ↔
      new.rows ≠ old.rows ∨ new.columns ≠ old.columns ∨ new.rolloverLimit ≠ old.rolloverLimit := by
  simp only [KeyboardSettings.restarts, Bool.or_eq_true, decide_eq_true_eq, or_assoc, ne_comm]

theorem Keyboard.configure_restart {k : Keyboard} {on : Bool} {g : KeyboardSettings} (t : Time) (hon : on = true)
    (h : k.settings.restarts g = true) :
    k.configure t on g =
      ({ (k.forceReleases t).1.clearMatrix true with settings := g }, (k.forceReleases t).2) := by
  unfold Keyboard.configure
  rw [h, hon]
  rfl

theorem Keyboard.configure_keep {k : Keyboard} {on : Bool} {g : KeyboardSettings} (t : Time)
    (h : on = false ∨ k.settings.restarts g = false) : k.configure t on g = ({ k with settings := g }, []) := by
  refine if_neg ?_
  rcases h with h | h <;> simp [h]

theorem State.keyboardDoes_eq {s : State} {q : LaneId} {f : Keyboard → Keyboard × List LaneEffect} {k : Keyboard}
    {l : List LaneEffect} (h : f (s.keyboards.get q) = (k, l)) : s.keyboardDoes q f = (s.withKeyboard q k).perform q l := by
  unfold State.keyboardDoes
  rw [h]

theorem exec_setKeyboard_taken {tag : Byte} (ht : tag ≠ 0) (r c n ro kc : Byte) (grain : Bool) (td ti kf : Half)
    (q : LaneId) (s : State) {given g : KeyboardSettings}
    (hgiven : given =
      { rows := r.toNat, columns := c.toNat, grain10 := grain, debounceCount := n.toNat, rolloverLimit := ro.toNat,
        typematicDelay := td.toNat, typematicInterval := ti.toNat, keylockCount := kc.toNat,
        keylockFaultTime := kf.toNat })
    (hg : g = given.clamped) :
    exec (.setKeyboard tag
        ([laneByte q, r, c, flagByte grain, n, ro] ++ halfBytes td ++ halfBytes ti ++ [kc] ++ halfBytes kf)) s =
      .next ((s.keyboardDoes q (Keyboard.configure s.time (s.modes.get q).current.keyboard g)).settle.replied tag 0x07
        (if g = given then .ok else .adjusted) (laneByte q :: g.bytes)) := by
  have body := keyboardSettingsAt_body q r c (flagByte grain) n ro kc td ti kf
  rw [flagOf_flagByte, ← hgiven] at body
  subst hg
  rw [← body, ← carriedOut_beq]
  refine (exec_lane_of_laneRule exec_setKeyboard
    (b := [r, c, flagByte grain, n, ro] ++ halfBytes td ++ halfBytes ti ++ [kc] ++ halfBytes kf) s ht rfl).trans ?_
  refine congrArg (fun x => Host.Outcome.next (State.answer tag 0x07 x)) (if_pos ?_)
  exact isFlag_flagByte grain

/-- Settles O30: what the settings written change decides between a restart and the settings alone. -/
theorem setKeyboard : Obligations.SetKeyboard := by
  refine ⟨wrongLengthRefused_of_laneRule exec_setKeyboard, badLaneRefused_of_laneRule exec_setKeyboard,
    fun tag r c grain n ro kc td ti kf q s ht hgrain => ?_,
    fun tag r c n ro kc grain td ti kf q k g st s ht hk hg hst => ?_⟩
  · refine (exec_lane_of_laneRule exec_setKeyboard
      (b := [r, c, grain, n, ro] ++ halfBytes td ++ halfBytes ti ++ [kc] ++ halfBytes kf) s ht rfl).trans ?_
    rw [← State.answer_refuse]
    refine congrArg (fun x => Host.Outcome.next (State.answer tag 0x07 x)) (if_neg ?_)
    exact Bool.eq_false_iff.1 (isFlag_eq_false hgrain)
  · have taken := exec_setKeyboard_taken ht r c n ro kc grain td ti kf q s rfl hg
    subst hk
    have status : (if g =
        { rows := r.toNat, columns := c.toNat, grain10 := grain, debounceCount := n.toNat,
          rolloverLimit := ro.toNat, typematicDelay := td.toNat, typematicInterval := ti.toNat,
          keylockCount := kc.toNat, keylockFaultTime := kf.toNat } then Status.ok else .adjusted) = st := by
      subst hg hst
      refine if_congr ?_ rfl rfl
      simp only [KeyboardSettings.mk.injEq, true_and]
    have grain10 : g.grain10 = grain := by rw [hg]
    rw [status, KeyboardSettings.bytes, grain10] at taken
    refine ⟨fun on change => taken.trans ?_, fun kept => taken.trans ?_⟩
    · rw [State.keyboardDoes_eq
        (Keyboard.configure_restart s.time on ((KeyboardSettings.restarts_iff _ _).2 change))]
      rfl
    · have keeps : (s.modes.get q).current.keyboard = false ∨ (s.keyboards.get q).settings.restarts g = false := by
        refine kept.imp_right fun ⟨rows, columns, limit⟩ => ?_
        rw [← Bool.not_eq_true, KeyboardSettings.restarts_iff]
        simp [rows, columns, limit]
      rw [State.keyboardDoes_silent (Keyboard.configure_keep s.time keeps)]
      rfl

end Sys2Proof.Machine

/-!
PROOF. The Drawer Controller and the Drive Supply Arbiter: SET_DRAWER and OPEN_DRAWER (obligation O40), the grant (O41),
the timers (O42) and the samples of the sense switch (O43).
-/

namespace Sys2Proof.Machine

/-! ## Inputs of a drawer -/

section
variable {s : State} {q : LaneId} {f : Drawer → Drawer × List LaneEffect} {d : Drawer}

/-- An input of a drawer that produces no event. -/
theorem State.drawerDoes_silent (h : f (s.drawers.get q) = (d, [])) : s.drawerDoes q f = s.withDrawer q d := by
  unfold State.drawerDoes
  rw [h]
  rfl

/-- An input of a drawer that produces one event. -/
theorem State.drawerDoes_event {t : Time} {e : EventBody} (h : f (s.drawers.get q) = (d, [.produce t e])) :
    s.drawerDoes q f = (s.withDrawer q d).produce q t e := by
  unfold State.drawerDoes
  rw [h]
  rfl

@[simp] theorem State.withDrawer_self (s : State) (q : LaneId) : s.withDrawer q (s.drawers.get q) = s := by
  unfold State.withDrawer
  rw [Lanes.set_get_self]

end

/-! ## The grant (R140, R141) -/

theorem State.eligible_iff (s : State) (q : LaneId) :
    s.eligible q = true ↔
      (∀ e, (s.drawers.get q).cooldownEnd = some e → reached s.time e = true) ∧
        (s.modes.get q).current.drawer = true := by
  unfold State.eligible Drawer.cooling
  rw [Bool.and_eq_true]
  refine and_congr_left' ?_
  cases (s.drawers.get q).cooldownEnd <;> simp

theorem State.grantOne_of_none {s : State} (h : s.arbiter.grant s.eligible = none) : s.grantOne = s := by
  unfold State.grantOne
  rw [h]

theorem Arbiter.grant_of_full {a : Arbiter} (f : LaneId → Bool) (h1 : a.slot1 ≠ none) (h2 : a.slot2 ≠ none) :
    a.grant f = none := by
  unfold Arbiter.grant
  split
  · rfl
  · rw [if_neg h1, if_neg h2]

theorem Arbiter.grant_of_ineligible {a : Arbiter} {f : LaneId → Bool} (h : ∀ q ∈ a.waiting, f q = false) :
    a.grant f = none := by
  have none : a.waiting.find? f = none := List.find?_eq_none.2 fun q hq => Bool.eq_false_iff.1 (h q hq)
  unfold Arbiter.grant
  rw [none]

/-- The oldest eligible request leaves the list, and the requests around it keep their places. -/
theorem Arbiter.grant_of_oldest {a : Arbiter} {f : LaneId → Bool} {q : LaneId} {older younger : List LaneId}
    (hw : a.waiting = older ++ q :: younger) (before : ∀ r ∈ older, f r = false) (here : f q = true)
    (ho : q ∉ older) (hy : q ∉ younger) (free : a.slot1 = none ∨ a.slot2 = none) :
    a.grant f =
      some (q,
        { slot1 := if a.slot1 = none then some q else a.slot1
          slot2 := if a.slot1 = none then a.slot2 else some q
          waiting := older ++ younger }) := by
  have first : a.waiting.find? f = some q := by
    rw [hw, List.find?_append, List.find?_eq_none.2 fun r hr => Bool.eq_false_iff.1 (before r hr),
      List.find?_cons_of_pos here]
    rfl
  have apart : ∀ l : List LaneId, q ∉ l → (l.filter fun x => x != q) = l := fun l hq =>
    List.filter_eq_self.2 fun r hr => bne_iff_ne.2 fun same => hq (same ▸ hr)
  have left : (a.withdraw q).waiting = older ++ younger := by
    rw [Arbiter.withdraw, hw, List.filter_append, List.filter_cons_of_neg (by simp), apart _ ho, apart _ hy]
  have keeps : (a.withdraw q).slot1 = a.slot1 ∧ (a.withdraw q).slot2 = a.slot2 := ⟨rfl, rfl⟩
  unfold Arbiter.grant
  rw [first]
  by_cases one : a.slot1 = none
  · simp only [if_pos one, left, keeps]
  · simp only [if_neg one, if_pos (free.resolve_left one), left, keeps]

/-- The number of free slots. -/
def Arbiter.freeSlots (a : Arbiter) : Nat := (if a.slot1 = none then 1 else 0) + if a.slot2 = none then 1 else 0

/-- A test of the list grants nothing or takes a slot. -/
theorem State.grantOne_cases (s : State) :
    s.grantOne = s ∨ s.grantOne.arbiter.freeSlots + 1 = s.arbiter.freeSlots := by
  unfold State.grantOne
  split
  · rename_i q a granted
    obtain ⟨-, -, ⟨free, rfl⟩ | ⟨taken, free, rfl⟩⟩ := Arbiter.grant_eq_some granted
    · exact Or.inr (by simp [Arbiter.freeSlots, Arbiter.withdraw, free, Nat.add_comm])
    · exact Or.inr (by simp [Arbiter.freeSlots, Arbiter.withdraw, free, taken])
  · exact Or.inl rfl

theorem Arbiter.freeSlots_le (a : Arbiter) : a.freeSlots ≤ 2 := by
  unfold Arbiter.freeSlots
  split <;> split <;> decide

/-- After two grants the arbiter has stopped: no slot is free, or one of the two tests granted nothing. -/
theorem State.grantAll_grantOne (s : State) : s.grantAll.grantOne = s.grantAll := by
  unfold State.grantAll
  rcases s.grantOne_cases with still | first
  · simp only [still]
  · rcases s.grantOne.grantOne_cases with still | second
    · rw [still, still]
    · rcases s.grantOne.grantOne.grantOne_cases with still | third
      · exact still
      · have := s.arbiter.freeSlots_le
        omega

/-- Settles O41: the grant by the slots and the oldest eligible request; that the arbiter stops, by the free slots. -/
theorem driveGrant : Obligations.DriveGrant := by
  refine ⟨State.eligible_iff, fun s h => State.grantOne_of_none (Arbiter.grant_of_ineligible h),
    fun s h1 h2 => State.grantOne_of_none (Arbiter.grant_of_full _ h1 h2),
    fun s q older younger hw before here ho hy free => ?_, fun s => ⟨rfl, s.grantAll_grantOne⟩⟩
  unfold State.grantOne
  rw [Arbiter.grant_of_oldest hw before here ho hy free]
  rfl

/-! ## The timers (R142, R145, R146, R148) -/

section
variable {d : Drawer} {now e : Time}

theorem Drawer.pulseDue_due (h : d.state = .driving e) (due : reached now e = true) : d.pulseDue now = some e := by
  unfold Drawer.pulseDue
  rw [h]
  exact if_pos due

theorem Drawer.pulseDue_early (h : ∀ e, d.state = .driving e → reached now e = false) : d.pulseDue now = none := by
  unfold Drawer.pulseDue
  split
  · rename_i e he
    exact if_neg (Bool.eq_false_iff.1 (h e he))
  · rfl

theorem Drawer.queueDue_due (h : d.state = .queued e) (due : reached now e = true) : d.queueDue now = some e := by
  unfold Drawer.queueDue
  rw [h]
  exact if_pos due

theorem Drawer.queueDue_early (h : ∀ e, d.state = .queued e → reached now e = false) : d.queueDue now = none := by
  unfold Drawer.queueDue
  split
  · rename_i e he
    exact if_neg (Bool.eq_false_iff.1 (h e he))
  · rfl

theorem Drawer.cooldownDue_due (h : d.cooldownEnd = some e) (due : reached now e = true) : d.cooldownDue now = true := by
  unfold Drawer.cooldownDue
  rw [h]
  exact due

theorem Drawer.cooldownDue_early (h : ∀ e, d.cooldownEnd = some e → reached now e = false) :
    d.cooldownDue now = false := by
  unfold Drawer.cooldownDue
  split
  · rename_i e he
    exact h e he
  · rfl

theorem Drawer.confirmExpired_due (h : d.state = .confirming e) (due : reached now e = true) :
    d.confirmExpired now =
      ({ d with
          state := .closed
          fault := true
          counters := { d.counters with opensFailed := d.counters.opensFailed + 1 } },
        [.produce e .drawerFailed]) := by
  unfold Drawer.confirmExpired
  rw [h]
  exact if_pos due

theorem Drawer.confirmExpired_early (h : ∀ e, d.state = .confirming e → reached now e = false) :
    d.confirmExpired now = (d, []) := by
  unfold Drawer.confirmExpired
  split
  · rename_i e he
    exact if_neg (Bool.eq_false_iff.1 (h e he))
  · rfl

theorem Drawer.leftOpenExpired_due {start : Time} (h : d.state = .opened start (some e) false)
    (due : reached now e = true) :
    d.leftOpenExpired now =
      ({ d with
          state := .opened start none true
          counters := { d.counters with leftOpen := d.counters.leftOpen + 1 } },
        [.produce e .drawerLeftOpen]) := by
  unfold Drawer.leftOpenExpired
  rw [h]
  exact if_pos due

theorem Drawer.leftOpenExpired_early
    (h : ∀ start e, d.state = .opened start (some e) false → reached now e = false) :
    d.leftOpenExpired now = (d, []) := by
  unfold Drawer.leftOpenExpired
  split
  · rename_i start e he
    exact if_neg (Bool.eq_false_iff.1 (h start e he))
  · rfl

end

section
variable (s : State) (q : LaneId)

theorem exec_pulseEnd :
    exec (.pulseEnd q) s =
      .next
        (match (s.drawers.get q).pulseDue s.time with
         | some e => ({ s with arbiter := s.arbiter.release q }.withDrawer q ((s.drawers.get q).pulseEnded e)).grantAll
         | none => s) := rfl

theorem exec_cooldownEnd :
    exec (.cooldownEnd q) s =
      .next
        (if (s.drawers.get q).cooldownDue s.time then
           (s.withDrawer q { s.drawers.get q with cooldownEnd := none }).grantAll
         else s) := rfl

theorem exec_confirmExpiry :
    exec (.confirmExpiry q) s = .next (s.drawerDoes q (Drawer.confirmExpired s.time)).settle := rfl

theorem exec_queueExpiry :
    exec (.queueExpiry q) s =
      .next
        (match (s.drawers.get q).queueDue s.time with
         | some e => (s.abandonOpen q e .queueTimeout).settle
         | none => s) := rfl

theorem exec_leftOpen : exec (.leftOpen q) s = .next (s.drawerDoes q (Drawer.leftOpenExpired s.time)).settle := rfl

end

/-- Settles O42: each timer by whether its drawer is in its state with its time reached. -/
theorem drawerTimers : Obligations.DrawerTimers := by
  intro q d s hd
  subst hd
  refine ⟨fun e he due => ?_, fun early => ?_, fun e he due => ?_, fun early => ?_, fun e he due => ?_,
    fun early => ?_, fun e he due => ?_, fun early => ?_, fun start e he due => ?_, fun early => ?_⟩
  · rw [exec_pulseEnd, Drawer.pulseDue_due he due]
    rfl
  · rw [exec_pulseEnd, Drawer.pulseDue_early early]
  · rw [exec_cooldownEnd, Drawer.cooldownDue_due he due, if_pos rfl]
  · rw [exec_cooldownEnd, Drawer.cooldownDue_early early, if_neg Bool.false_ne_true]
  · rw [exec_confirmExpiry, State.drawerDoes_event (Drawer.confirmExpired_due he due)]
  · rw [exec_confirmExpiry, State.drawerDoes_silent (Drawer.confirmExpired_early early), State.withDrawer_self]
  · rw [exec_queueExpiry, Drawer.queueDue_due he due]
    rfl
  · rw [exec_queueExpiry, Drawer.queueDue_early early]
  · rw [exec_leftOpen, State.drawerDoes_event (Drawer.leftOpenExpired_due he due)]
  · rw [exec_leftOpen, State.drawerDoes_silent (Drawer.leftOpenExpired_early early), State.withDrawer_self]

/-! ## The sense switch (R136, R143, R144, R147) -/

/-- A sample of the sense switch, by whether the raw value is accepted. -/
theorem Drawer.sampleSense_eq {d : Drawer} {now change : Time} {raw : Bool}
    (hc : change = if raw = d.senseRaw then d.senseChange else now) :
    (raw = d.senseOpen ∨ elapsed now change < d.settings.senseCount * 10 →
      d.sampleSense now raw = ({ d with senseRaw := raw, senseChange := change }, false)) ∧
    (raw ≠ d.senseOpen → d.settings.senseCount * 10 ≤ elapsed now change →
      d.sampleSense now raw = ({ d with senseRaw := raw, senseChange := change, senseOpen := raw }, true)) := by
  subst hc
  refine ⟨fun rejected => ?_, fun differs stood => ?_⟩
  · have accepts : (raw != d.senseOpen && decide (d.settings.senseCount * 10 ≤
        elapsed now (if raw = d.senseRaw then d.senseChange else now))) = false := by
      rw [Bool.and_eq_false_iff, bne_eq_false_iff_eq, decide_eq_false_iff_not, Nat.not_le]
      exact rejected
    unfold Drawer.sampleSense
    simp only [accepts]
    rfl
  · have accepts : (raw != d.senseOpen && decide (d.settings.senseCount * 10 ≤
        elapsed now (if raw = d.senseRaw then d.senseChange else now))) = true := by
      rw [Bool.and_eq_true, bne_iff_ne, decide_eq_true_eq]
      exact ⟨differs, stood⟩
    unfold Drawer.sampleSense
    simp only [accepts]
    rfl

section
variable {s : State} {q : LaneId} {d : Drawer} {raw : Bool}

theorem State.sampleSense_rejected (h : (s.drawers.get q).sampleSense s.time raw = (d, false)) :
    s.sampleSense q raw = s.withDrawer q d := by
  unfold State.sampleSense
  rw [h]
  rfl

/-- An accepted close of an OPEN drawer. -/
theorem State.sampleSense_closed (h : (s.drawers.get q).sampleSense s.time false = (d, true)) {start : Time}
    {alarm : Option Time} {alarmed : Bool} (hd : d.state = .opened start alarm alarmed) :
    s.sampleSense q false =
      ((s.withDrawer q { d with state := .closed }).produce q s.time (.drawerClosed (s.time - start))).settle := by
  have close : d.senseClosed s.time = ({ d with state := .closed }, [.produce s.time (.drawerClosed (s.time - start))]) := by
    unfold Drawer.senseClosed
    rw [hd]
  have closed : (s.withDrawer q d).drawerDoes q (Drawer.senseClosed s.time) =
      ((s.withDrawer q d).withDrawer q { d with state := .closed }).produce q s.time
        (.drawerClosed (s.time - start)) := State.drawerDoes_event (by rw [State.withDrawer_drawers, Lanes.get_set_self, close])
  rw [State.withDrawer_withDrawer] at closed
  unfold State.sampleSense
  rw [h]
  exact congrArg State.settle closed

/-- An accepted open, by what it makes of the drawer and the cause it gives. -/
theorem State.sampleSense_opened (h : (s.drawers.get q).sampleSense s.time true = (d, true)) {e : Drawer}
    {cause : OpenCause} (ho : d.senseOpened s.time = (e, [.produce s.time (.drawerOpened cause)])) :
    s.sampleSense q true =
      ((({ s with arbiter := (s.arbiter.release q).withdraw q }.withDrawer q e).produce q s.time
        (.drawerOpened cause)).grantAll).settle := by
  have opened :
      { s.withDrawer q d with arbiter := (s.arbiter.release q).withdraw q }.drawerDoes q (Drawer.senseOpened s.time) =
        ({ s with arbiter := (s.arbiter.release q).withdraw q }.withDrawer q e).produce q s.time
          (.drawerOpened cause) := by
    refine (State.drawerDoes_event (d := e) (t := s.time) (e := .drawerOpened cause) ?_).trans ?_
    · rw [← ho, State.withDrawer_drawers, Lanes.get_set_self]
    · exact congrArg (fun x : State => x.produce q s.time (.drawerOpened cause))
        (State.withDrawer_withDrawer { s with arbiter := (s.arbiter.release q).withdraw q } q d e)
  unfold State.sampleSense
  rw [h]
  exact congrArg (fun x : State => x.grantAll.settle) opened

end

section
variable {d : Drawer} {now : Time}

theorem Drawer.senseOpened_driving {e : Time} (h : d.state = .driving e) :
    d.senseOpened now = { d with cooldownEnd := some (after now d.settings.cooldown) }.openCommanded now := by
  unfold Drawer.senseOpened
  rw [h]

theorem Drawer.senseOpened_confirming {e : Time} (h : d.state = .confirming e) :
    d.senseOpened now = d.openCommanded now := by
  unfold Drawer.senseOpened
  rw [h]

theorem Drawer.senseOpened_queued {e : Time} (h : d.state = .queued e) :
    d.senseOpened now = d.openByItself now .beforeDrive := by
  unfold Drawer.senseOpened
  rw [h]

theorem Drawer.senseOpened_closed (h : d.state = .closed) : d.senseOpened now = d.openByItself now .uncommanded := by
  unfold Drawer.senseOpened
  rw [h]

end

/-- Settles O43: a sample by whether its raw value is accepted, an open by the state it finds the drawer in. -/
theorem drawerSense : Obligations.DrawerSense := by
  intro q raw d d1 c change s hd hc hchange hd1
  subst hd
  obtain ⟨rejected, accepted⟩ := Drawer.sampleSense_eq hchange
  have run : exec c s = .next (s.sampleSense q raw) := by
    subst hc
    cases raw <;> rfl
  subst hd1
  refine ⟨fun h => ?_, fun hraw shut stood a o ha ho => ?_, fun hraw isOpen stood start alarm alarmed hstate => ?_⟩
  · rw [run, State.sampleSense_rejected (rejected h)]
  · subst hraw ha ho
    have taken := accepted (by simp [shut]) stood
    rw [run]
    refine ⟨fun e h => ?_, fun e h => ?_, fun e h => ?_, fun h => ?_⟩
    · rw [State.sampleSense_opened taken (Drawer.senseOpened_driving h)]
      rfl
    · rw [State.sampleSense_opened taken (Drawer.senseOpened_confirming h)]
      rfl
    · rw [State.sampleSense_opened taken (Drawer.senseOpened_queued h)]
      rfl
    · rw [State.sampleSense_opened taken (Drawer.senseOpened_closed h)]
      rfl
  · subst hraw
    rw [run, State.sampleSense_closed (accepted (by simp [isOpen]) stood) hstate]

/-! ## SET_DRAWER (R154) -/

theorem exec_setDrawer (tag : Byte) (b : List Byte) (s : State) :
    exec (.setDrawer tag b) s = .next (s.takeWith 0x18 tag b setDrawerRule) := rfl

theorem drawerSettingsAt_body (q : LaneId) (n : Byte) (pw ct lo cd qt : Half) :
    drawerSettingsAt
        ([laneByte q] ++ halfBytes pw ++ halfBytes ct ++ halfBytes lo ++ halfBytes cd ++ halfBytes qt ++ [n]) =
      { pulseWidth := pw.toNat, confirmTimeout := ct.toNat, leftOpenAlarm := lo.toNat, cooldown := cd.toNat,
        queueTimeout := qt.toNat, senseCount := n.toNat } := by
  simp [drawerSettingsAt, natAt, nat2At, halfBytes, halfAt_cons_cons]

theorem exec_setDrawer_taken {tag : Byte} (ht : tag ≠ 0) (n : Byte) (pw ct lo cd qt : Half) (q : LaneId) (s : State)
    {given g : DrawerSettings}
    (hgiven : given =
      { pulseWidth := pw.toNat, confirmTimeout := ct.toNat, leftOpenAlarm := lo.toNat, cooldown := cd.toNat,
        queueTimeout := qt.toNat, senseCount := n.toNat })
    (hg : g = given.clamped) :
    exec (.setDrawer tag
        ([laneByte q] ++ halfBytes pw ++ halfBytes ct ++ halfBytes lo ++ halfBytes cd ++ halfBytes qt ++ [n])) s =
      .next ((s.withDrawer q { s.drawers.get q with settings := g, fault := false }).settle.replied tag 0x18
        (if g = given then .ok else .adjusted) (laneByte q :: g.bytes ++ [flagByte (s.drawers.get q).fault])) := by
  have body := drawerSettingsAt_body q n pw ct lo cd qt
  rw [← hgiven] at body
  subst hg
  rw [← body, ← carriedOut_beq]
  exact exec_lane_of_laneRule exec_setDrawer
    (b := halfBytes pw ++ halfBytes ct ++ halfBytes lo ++ halfBytes cd ++ halfBytes qt ++ [n]) s ht rfl

theorem DrawerSettings.eq_iff (g h : DrawerSettings) :
    g = h ↔ g.pulseWidth = h.pulseWidth ∧ g.confirmTimeout = h.confirmTimeout ∧ g.leftOpenAlarm = h.leftOpenAlarm ∧
      g.cooldown = h.cooldown ∧ g.queueTimeout = h.queueTimeout ∧ g.senseCount = h.senseCount := by
  obtain ⟨pw, ct, lo, cd, qt, n⟩ := g
  exact DrawerSettings.mk.injEq ..  ▸ Iff.rfl

theorem half_toNat_eq_zero_iff (h : Half) : h.toNat = 0 ↔ h = 0 := by
  rw [← BitVec.toNat_inj]
  rfl

/-! ## OPEN_DRAWER (R137, R138) -/

theorem exec_openDrawer (tag : Byte) (b : List Byte) (s : State) :
    exec (.openDrawer tag b) s = .next (s.takeWith 0x19 tag b openDrawerRule) := rfl

theorem openDrawerRule_length (tag : Byte) {b : List Byte} (s : State) (h : b.length ≠ 2) :
    openDrawerRule tag b s = (s, .reply .badArgument (s.openFields b)) := if_pos h

theorem State.openFields_lane (s : State) (q : LaneId) (l : List Byte) :
    s.openFields (laneByte q :: l) = [laneByte q, l.headD 0, (s.drawers.get q).state.code] := by
  unfold State.openFields laneHeld
  simp only [List.head?_cons, Option.bind_some, laneOf_laneByte]
  cases l <;> rfl

theorem State.openFields_badLane (s : State) {v : Byte} (h : 3 < v.toNat) (l : List Byte) :
    s.openFields (v :: l) = [v, l.headD 0, 0] := by
  unfold State.openFields laneHeld
  simp only [List.head?_cons, Option.bind_some, laneOf_eq_none h]
  cases l <;> rfl

theorem openDrawerRule_badLane (tag : Byte) {v : Byte} (h : 3 < v.toNat) (r : Byte) (s : State) :
    openDrawerRule tag [v, r] s = (s, .reply .badLane [v, r, 0]) := by
  unfold openDrawerRule
  rw [if_neg (by simp)]
  simp only [byteAt_zero, laneOf_eq_none h, s.openFields_badLane h]
  rfl

theorem openDrawerRule_lane (tag : Byte) (q : LaneId) (r : Byte) (s : State) :
    openDrawerRule tag [laneByte q, r] s =
      match s.openRefusal q r with
      | some st => (s, .reply st [laneByte q, r, (s.drawers.get q).state.code])
      | none => (s.acceptOpen q, .reply .ok [laneByte q, r, 1]) := by
  unfold openDrawerRule
  rw [if_neg (by simp)]
  simp only [byteAt_zero, laneOf_laneByte, s.openFields_lane]
  rfl

theorem State.reasonRefused_iff (s : State) (q : LaneId) (r : Byte) :
    s.reasonRefused q r = true ↔
      (r = 1 ∧ s.elevated q = false) ∨ (r = 2 ∧ (s.keyboards.get q).keylock.position ≠ .service) := by
  simp [State.reasonRefused]

/-- Settles O40: SET_DRAWER by what clamping changes, OPEN_DRAWER by the tests of R137 in order. -/
theorem drawerRequests : Obligations.DrawerRequests := by
  refine ⟨⟨wrongLengthRefused_of_laneRule exec_setDrawer, badLaneRefused_of_laneRule exec_setDrawer,
      fun tag n pw ct lo cd qt q g s ht hg => ?_⟩,
    fun tag b s ht h => exec_of_rule exec_openDrawer ht (openDrawerRule_length tag s h), fun s => rfl,
    fun l q s => s.openFields_lane q l, fun v l s h => s.openFields_badLane h l,
    fun d => by cases d.state <;> rfl,
    fun tag l r s ht h => exec_of_rule exec_openDrawer ht (openDrawerRule_badLane tag h r s),
    fun q s => s.elevated_iff q, fun tag r q d s ht hd => ?_⟩
  · have clamped : g = DrawerSettings.clamped
        { pulseWidth := pw.toNat, confirmTimeout := ct.toNat, leftOpenAlarm := lo.toNat, cooldown := cd.toNat,
          queueTimeout := qt.toNat, senseCount := n.toNat } := by
      rw [hg, DrawerSettings.clamped]
      simp only [half_toNat_eq_zero_iff]
    refine (exec_setDrawer_taken ht n pw ct lo cd qt q s rfl clamped).trans ?_
    simp only [DrawerSettings.eq_iff]
    rfl
  · subst hd
    refine (exec_of_rule exec_openDrawer ht (openDrawerRule_lane tag q r s)).trans ?_
    unfold State.openRefusal
    simp only [s.reasonRefused_iff, Bool.not_eq_true']
    by_cases reason : 2 < r.toNat
    · simp only [if_pos reason, State.answer_reply]
    by_cases off : (s.modes.get q).current.drawer = false
    · simp only [if_neg reason, if_pos off, State.answer_reply]
    by_cases locked : (s.interlocks.conditions.get q).lockedOut = true
    · simp only [if_neg reason, if_neg off, if_pos locked, State.answer_reply]
    by_cases privilege : (r = 1 ∧ s.elevated q = false) ∨ (r = 2 ∧ (s.keyboards.get q).keylock.position ≠ .service)
    · simp only [if_neg reason, if_neg off, if_neg locked, if_pos privilege, State.answer_reply]
    by_cases busy : (s.drawers.get q).state ≠ .closed
    · simp only [if_neg reason, if_neg off, if_neg locked, if_neg privilege, if_pos busy, State.answer_reply]
    · simp only [if_neg reason, if_neg off, if_neg locked, if_neg privilege, if_neg busy, State.answer_reply]
      rfl

end Sys2Proof.Machine

/-!
PROOF. The Interlock Monitors: their match, their states and how they follow their conditions (obligation O44), and the
effects handed on (O45).
-/

namespace Sys2Proof.Machine

/-! ## The match (R157) -/

theorem State.conditionValue_iff (s : State) (m : MonitorSettings) {p : PortId}
    (hp : p = if m.portParam = 1 then .b else .a) :
    s.conditionValue m = true ↔
      match m.condition with
      | .drawerOpen => ∃ t a b, (s.drawers.get m.sourceLane).state = .opened t a b
      | .drawerFault => (s.drawers.get m.sourceLane).fault = true
      | .keylockIs => (s.keyboards.get m.sourceLane).keylock.position.index = m.keylockParam.toNat
      | .scannerNotLocked => (s.port m.sourceLane p).alignment ≠ .locked
      | .queueAtLeast => m.queueParam ≤ s.store.occ m.sourceLane
      | .pacing => ∃ t, (s.meter m.sourceLane p).pacing = .holding t := by
  have named : portParam m.portParam = p := hp.symm
  unfold State.conditionValue
  rw [named]
  cases m.condition with
  | drawerOpen => exact Drawer.isOpen_iff _
  | drawerFault => exact Iff.rfl
  | keylockIs => exact decide_eq_true_iff
  | scannerNotLocked => exact bne_iff_ne
  | queueAtLeast => exact decide_eq_true_iff
  | pacing =>
    show (s.meter m.sourceLane p).holds = true ↔ _
    unfold Meter.holds
    cases (s.meter m.sourceLane p).pacing <;> simp

theorem State.matchOf_iff (s : State) (m : MonitorSettings) :
    s.matchOf m = true ↔ m.enabled = true ∧ (m.sense = true ↔ s.conditionValue m = true) := by
  unfold State.matchOf
  rw [Bool.and_eq_true, beq_iff_eq, ← Bool.eq_iff_iff, eq_comm (a := m.sense)]

/-! ## The states (R158, R159) -/

section
variable {m : Monitor} {now : Time}

theorem Monitor.takeMatch_enters (hs : m.state = .inactive) (hq : m.settings.qualify = 0) :
    m.takeMatch now true = ({ m with isMatch := true, state := .active }, .entered) := by
  unfold Monitor.takeMatch Monitor.matchBegins
  rw [hs]
  simp only [if_true, if_pos hq]

theorem Monitor.takeMatch_qualifies (hs : m.state = .inactive) (hq : m.settings.qualify ≠ 0) :
    m.takeMatch now true = ({ m with isMatch := true, state := .qualifying now }, .none) := by
  unfold Monitor.takeMatch Monitor.matchBegins
  rw [hs]
  simp only [if_true, if_neg hq]

theorem Monitor.takeMatch_gives_up {t : Time} (hs : m.state = .qualifying t) :
    m.takeMatch now false = ({ m with isMatch := false, state := .inactive }, .none) := by
  unfold Monitor.takeMatch Monitor.matchEnds
  rw [hs]
  simp only [Bool.false_eq_true, if_false]

theorem Monitor.takeMatch_leaves (hs : m.state = .active) (hl : m.settings.latched = false) :
    m.takeMatch now false = ({ m with isMatch := false, state := .inactive }, .left .matchEnded) := by
  unfold Monitor.takeMatch Monitor.matchEnds
  rw [hs]
  simp only [Bool.false_eq_true, if_false, hl]

theorem Monitor.takeMatch_latched (hs : m.state = .active) (hl : m.settings.latched = true) (v : Bool) :
    m.takeMatch now v = ({ m with isMatch := v }, .none) := by
  unfold Monitor.takeMatch Monitor.matchBegins Monitor.matchEnds
  rw [hs]
  cases v with
  | true => exact if_pos rfl
  | false => simp only [Bool.false_eq_true, if_false, hl, if_true]

theorem Monitor.qualifyExpiry_qualifying {start : Time} (h : m.state = .qualifying start) :
    m.qualifyExpiry = some (start + BitVec.ofNat 32 (m.settings.qualify * 10)) := by
  unfold Monitor.qualifyExpiry
  rw [h]
  rfl

theorem Monitor.qualifyExpiry_eq_none (h : ∀ t, m.state ≠ .qualifying t) : m.qualifyExpiry = none := by
  unfold Monitor.qualifyExpiry
  split
  · rename_i t ht
    exact absurd ht (h t)
  · rfl

end

/-! ## Transitions (R160, R162) -/

section
variable (i : MonitorId) (t : Time) (m : Monitor) (r : OffReason) (s : State)

theorem State.turnMonitor_entered :
    s.turnMonitor i t (m, .entered) =
      ((s.withMonitor i m).produce m.settings.sourceLane t (.interlockOn i)).refreshEffects := by
  unfold State.turnMonitor State.monitorEvent
  simp only [State.monitor_withMonitor, if_true]

theorem State.turnMonitor_left :
    s.turnMonitor i t (m, .left r) =
      (s.withMonitor i m).refreshEffects.produce m.settings.sourceLane t (.interlockOff i r) := by
  have kept : (s.withMonitor i m).refreshEffects.monitor i = m := by
    rw [State.monitor_congr (State.refreshEffects_monitors _), State.monitor_withMonitor, if_pos rfl]
  unfold State.turnMonitor State.monitorEvent
  simp only [kept]

end

section
variable {s : State} {i : MonitorId} {start : Time}

theorem exec_interlockQualifyExpiry {t : Time} (h : (s.monitor i).qualifyExpiry = some t) :
    exec (.interlockQualifyExpiry i) s =
      .next (if reached s.time t then (s.turnMonitor i t ({ s.monitor i with state := .active }, .entered)).settle
        else s) := by
  refine (show exec (.interlockQualifyExpiry i) s = execInterlockQualifyExpiry i s from rfl).trans ?_
  unfold execInterlockQualifyExpiry
  rw [h]

theorem exec_interlockQualifyExpiry_none (h : (s.monitor i).qualifyExpiry = none) :
    exec (.interlockQualifyExpiry i) s = .next s := by
  refine (show exec (.interlockQualifyExpiry i) s = execInterlockQualifyExpiry i s from rfl).trans ?_
  unfold execInterlockQualifyExpiry
  rw [h]

end

/-! ## Following the conditions (R157) -/

/-- A settling that is given the changes due, and turns enough, has none to take or takes one of them first. -/
theorem State.Due.settles {s : State} {due : List MonitorId} (h : s.Due due) {n : Nat}
    (hn : due.length + s.risesLeft ≤ n) :
    (due = [] ∧ ∀ m, State.settleFor m due s = s) ∨
      ∃ (i : MonitorId) (rest : List MonitorId) (u : State), due.Perm (i :: rest) ∧
        (u = s ∨ u = { s with freeIndex := s.freeIndex + 1 }) ∧
        (∀ m, State.settleFor (m + 1) due s =
          State.settleFor m (rest ++ s.rematched (u.takeChange i)) (u.takeChange i)) ∧
        (u.takeChange i).Due (rest ++ s.rematched (u.takeChange i)) ∧
        (rest ++ s.rematched (u.takeChange i)).length + (u.takeChange i).risesLeft + 1 ≤ n := by
  cases hd : (s.inOrder due).1 with
  | nil =>
    have none : due = [] := List.nil_perm.1 (hd ▸ s.perm_inOrder due)
    subst none
    refine Or.inl ⟨rfl, fun m => ?_⟩
    cases m <;> rfl
  | cons i rest =>
    have order : due.Perm (i :: rest) := (hd ▸ s.perm_inOrder due).symm
    have free : (s.inOrder due).2 = s ∨ (s.inOrder due).2 = { s with freeIndex := s.freeIndex + 1 } := by
      unfold State.inOrder
      split
      · exact Or.inl rfl
      · exact Or.inr rfl
    have due' := h.free due
    generalize hu : (s.inOrder due).2 = u at free due'
    have same : s.rematched (u.takeChange i) = u.rematched (u.takeChange i) ∧ u.risesLeft = s.risesLeft := by
      rcases free with rfl | rfl <;> exact ⟨rfl, rfl⟩
    refine Or.inr ⟨i, rest, u, order, free, fun m => ?_, same.1 ▸ due'.turn order, ?_⟩
    · conv => lhs; unfold State.settleFor
      simp only [hd, hu]
    · have rises := (Grown.takeChange u i (due'.1 i (order.mem_iff.2 List.mem_cons_self))).rematched_rises
      have length := order.length_eq
      rw [List.length_cons] at length
      rw [List.length_append, same.1]
      omega

/-- The changes are taken one at a time, each with those that it brings about. -/
theorem State.Due.follows : ∀ (n : Nat) {s : State} {due : List MonitorId}, s.Due due →
    due.length + s.risesLeft ≤ n → MonitorsFollow due s (State.settleFor n due s) := by
  intro n
  induction n with
  | zero =>
    intro s due h hn
    have none : due = [] := List.length_eq_zero_iff.1 (by omega)
    subst none
    exact .done s
  | succ n ih =>
    intro s due h hn
    rcases h.settles hn with ⟨rfl, still⟩ | ⟨i, rest, u, order, free, turn, due', left⟩
    · rw [still]
      exact .done s
    · rw [turn]
      refine .turn due rest i s u _ _ order free ?_ (ih due' (by omega))
      rcases free with rfl | rfl <;> rfl

/-- Turns beyond those the changes need change nothing. -/
theorem State.Due.settleFor_succ : ∀ (n : Nat) {s : State} {due : List MonitorId}, s.Due due →
    due.length + s.risesLeft ≤ n → State.settleFor (n + 1) due s = State.settleFor n due s := by
  intro n
  induction n with
  | zero =>
    intro s due h hn
    have none : due = [] := List.length_eq_zero_iff.1 (by omega)
    subst none
    rfl
  | succ n ih =>
    intro s due h hn
    rcases h.settles hn with ⟨-, still⟩ | ⟨i, rest, u, -, -, turn, due', left⟩
    · rw [still, still]
    · rw [turn, turn]
      exact ih due' (by omega)

theorem State.risesLeft_le (s : State) : s.risesLeft ≤ 8 :=
  Nat.le_trans (sum_map_le (g := fun _ => 1) fun i _ => by split <;> decide) (by decide)

/-- The changes that a turn brings about are all that is due once the only change has been taken. -/
theorem State.stale_takeChange {s : State} {i : MonitorId} (h : s.stale = [i]) :
    (s.takeChange i).stale = s.rematched (s.takeChange i) := by
  have behind : ∀ j, (j = i ↔ _) := fun j => List.mem_singleton.symm.trans (h ▸ s.mem_stale j)
  have settings : ∀ j, ((s.takeChange i).monitor j).settings = (s.monitor j).settings :=
    (Grown.takeChange s i ((behind i).1 rfl).1).settings
  refine List.filter_congr fun j _ => ?_
  rw [settings, State.takeChange_isMatch]
  cases enabled : (s.monitor j).settings.enabled
  · rfl
  simp only [Bool.true_and]
  congr 1
  split
  · rename_i here
    subst here
    rw [Bool.not_eq_eq_eq_not]
    exact Bool.eq_not.2 ((behind j).1 rfl).2
  · rename_i there
    by_contra differs
    exact there ((behind j).2 ⟨enabled, differs⟩)

theorem State.settle_of_one {s : State} {i : MonitorId} (h : s.stale = [i]) :
    s.settle =
      (s.turnMonitor i s.time ((s.monitor i).takeMatch s.time (s.matchOf (s.monitor i).settings))).settle := by
  have behind := (s.mem_stale i).1 (h ▸ List.mem_singleton_self i)
  have taken : s.turnMonitor i s.time ((s.monitor i).takeMatch s.time (s.matchOf (s.monitor i).settings)) =
      s.takeChange i := by
    unfold State.takeChange
    rw [Bool.not_eq.2 behind.2]
  have rises := (Grown.takeChange s i behind.1).rematched_rises
  have bound := s.risesLeft_le
  rw [taken]
  calc s.settle = State.settleFor 15 (s.takeChange i).stale (s.takeChange i) := by
        rw [State.stale_takeChange h, State.settle, h]
        rfl
    _ = (s.takeChange i).settle := by
        refine ((s.takeChange i).due_stale.settleFor_succ 15 ?_).symm
        rw [State.stale_takeChange h]
        omega

/-- Settles O44: the match, the states, the transitions and the qualify expiry case by case; how the monitors follow,
by induction on the turns of a settling, which are enough (log 20). -/
theorem monitorTransitions : Obligations.MonitorTransitions := by
  refine ⟨⟨fun m s p hp => ?_, fun now m => ⟨fun hs hq => Monitor.takeMatch_enters hs hq,
      fun hs hq => Monitor.takeMatch_qualifies hs hq, fun t hs => Monitor.takeMatch_gives_up hs,
      fun hs hl => Monitor.takeMatch_leaves hs hl, fun hs hl v => Monitor.takeMatch_latched hs hl v⟩,
      fun i t m r s => ⟨rfl, s.turnMonitor_entered i t m, s.turnMonitor_left i t m r⟩,
      fun i m start e s hm hs he => ?_,
      fun i s h => exec_interlockQualifyExpiry_none (Monitor.qualifyExpiry_eq_none h)⟩,
    State.mem_stale, State.mem_rematched, fun s t => ⟨s.nodup_stale, s.nodup_rematched t⟩, State.settle_of_stale_nil,
    fun s i h => State.settle_of_one h, fun s => s.due_stale.follows 16 s.due_le, State.settle_stale⟩
  · exact (s.matchOf_iff m).trans (and_congr_right' (iff_congr Iff.rfl (s.conditionValue_iff m hp)))
  · subst hm he
    rw [exec_interlockQualifyExpiry (Monitor.qualifyExpiry_qualifying hs)]
    exact ⟨fun due => by rw [if_pos due], fun early => by rw [early, if_neg Bool.false_ne_true]⟩

/-! ## The effect conditions (R161) -/

theorem allConditions_get (ms : Vector Monitor 8) (q : LaneId) : (allConditions ms).get q = conditionsOf ms q := by
  match q with
  | 0 | 1 | 2 | 3 => rfl

theorem effectChanges_self (c : Lanes EffectConditions) : effectChanges c c = [] := by
  simp [effectChanges]

theorem effectChanges_nodup (old new : Lanes EffectConditions) : (effectChanges old new).Nodup :=
  (List.Nodup.filter _ (by decide : allEffects.Nodup)).map fun _ _ h => congrArg Prod.fst h

/-! ## LAMP and TONE resolved again (R167) -/

/-- The outputs of a lane with LAMP and TONE resolved again. -/
def State.resolvedOutputs (s : State) (q : LaneId) : LaneOutputs :=
  { s.outputs.get q with
    lamp := (s.outputs.get q).lamp.resolve s.time (forceOn s.interlocks.monitors q .lamp)
    tone := (s.outputs.get q).tone.resolve s.time (forceOn s.interlocks.monitors q .tone) }

theorem State.resolveLane_eq (s : State) (q : LaneId) :
    (s.updateSignal q .lamp id).updateSignal q .tone id = s.withOutputs q (s.resolvedOutputs q) := by
  unfold State.updateSignal
  rw [State.withOutputs_withOutputs, State.withOutputs_outputs, Lanes.get_set_self]
  rfl

theorem State.resolvedOutputs_signal (s : State) (q : LaneId) (x : SignalOut) :
    (s.resolvedOutputs q).signal x = ((s.updateSignal q x id).outputs.get q).signal x := by
  unfold State.updateSignal
  rw [State.withOutputs_outputs, Lanes.get_set_self]
  cases x <;> rfl

/-- The lanes of a list are resolved, each from its own outputs, and nothing else changes. -/
theorem State.resolveLanes_eq : ∀ (l : List LaneId) (s : State), l.Nodup →
    ∃ o : Lanes LaneOutputs,
      l.foldl (fun s q => (s.updateSignal q .lamp id).updateSignal q .tone id) s = { s with outputs := o } ∧
        ∀ q, o.get q = if q ∈ l then s.resolvedOutputs q else s.outputs.get q
  | [], s, _ => ⟨s.outputs, rfl, fun q => by simp⟩
  | r :: l, s, h => by
    obtain ⟨first, nodup⟩ := List.nodup_cons.1 h
    obtain ⟨o, ho, lanes⟩ := State.resolveLanes_eq l (s.withOutputs r (s.resolvedOutputs r)) nodup
    refine ⟨o, ?_, fun q => ?_⟩
    · rw [List.foldl_cons, State.resolveLane_eq, ho]
      rfl
    · have here : ∀ q ≠ r, (s.withOutputs r (s.resolvedOutputs r)).outputs.get q = s.outputs.get q := fun q hq => by
        rw [State.withOutputs_outputs_get, if_neg hq]
      rw [lanes]
      by_cases later : q ∈ l
      · have other : q ≠ r := fun same => first (same ▸ later)
        rw [if_pos later, if_pos (List.mem_cons_of_mem _ later), State.resolvedOutputs, here q other]
        rfl
      · by_cases same : q = r
        · subst same
          rw [if_neg later, if_pos List.mem_cons_self, State.withOutputs_outputs_get, if_pos rfl]
        · rw [if_neg later, here q same, if_neg (by simp [same, later])]

theorem State.resolveSignals_eq (s : State) :
    ∃ o : Lanes LaneOutputs, s.resolveSignals = { s with outputs := o } ∧ ∀ q, o.get q = s.resolvedOutputs q := by
  obtain ⟨o, ho, lanes⟩ := State.resolveLanes_eq allLanes s (by decide)
  exact ⟨o, ho, fun q => (lanes q).trans (if_pos (List.mem_finRange q))⟩

/-! ## Effects handed on (R161) -/

theorem State.refreshEffects_of_nil {s : State} (h : s.changedEffects = []) : s.refreshEffects = s.recomputed := by
  rw [State.refreshEffects_eq, h]
  rfl

theorem State.refreshEffects_of_one {s : State} {x : (LaneId × Effect) × Bool} (h : s.changedEffects = [x]) :
    s.refreshEffects = s.recomputed.handEffect x := by
  rw [State.refreshEffects_eq, h]
  rfl

theorem State.refreshEffects_of_more {s : State} (h : 2 ≤ s.changedEffects.length) :
    ∃ order : List ((LaneId × Effect) × Bool), order.Perm s.changedEffects ∧
      s.refreshEffects =
        order.foldl State.handEffect { s.recomputed with freeIndex := s.recomputed.freeIndex + 1 } := by
  refine ⟨_, s.recomputed.perm_inOrder s.changedEffects, ?_⟩
  have chosen : (s.recomputed.inOrder s.changedEffects).2 =
      { s.recomputed with freeIndex := s.recomputed.freeIndex + 1 } := by
    unfold State.inOrder
    rw [if_neg (Nat.not_lt.2 h)]
  rw [State.refreshEffects_eq, chosen]

theorem State.handEffect_lockout {s : State} {q : LaneId} {e : Time} (h : (s.drawers.get q).state = .queued e) :
    s.handEffect ((q, .lockout), true) = s.abandonOpen q s.time .lockout :=
  if_pos ((Drawer.isQueued_iff _).2 ⟨e, h⟩)

theorem State.handEffect_lockout_idle {s : State} {q : LaneId} (h : ∀ e, (s.drawers.get q).state ≠ .queued e) :
    s.handEffect ((q, .lockout), true) = s :=
  if_neg fun queued => (Drawer.isQueued_iff _).1 queued |>.elim h

/-- Settles O45: the conditions from the ACTIVE monitors, the changes handed on by their number, each effect by its
case. -/
theorem effectsHandedOn : Obligations.EffectsHandedOn := by
  refine ⟨fun ms q n => ?_, fun ms q => ?_, fun s h => ?_, fun s q x v u h hu => ?_, fun s u l hl hu many => ?_,
    fun old new q v => ?_, effectChanges_nodup, fun s => ?_, fun s q => rfl,
    fun s q e h => State.handEffect_lockout h, fun s q h => State.handEffect_lockout_idle h,
    fun s q v => ⟨rfl, rfl, rfl, rfl⟩⟩
  · rw [anyGives_iff]
    simp only [Monitor.gives, Bool.and_eq_true, beq_iff_eq, and_assoc]
  · rw [allConditions_get]
    exact ⟨rfl, rfl, rfl, rfl⟩
  · have still : s.changedEffects = [] := by rw [State.changedEffects, h, effectChanges_self]
    rw [State.refreshEffects_of_nil still, State.recomputed, h]
  · subst hu
    exact State.refreshEffects_of_one h
  · subst hl hu
    exact State.refreshEffects_of_more many
  · simp only [mem_effectChanges]
    exact ⟨and_comm, and_comm, and_comm, and_comm⟩
  · obtain ⟨o, ho, lanes⟩ := s.resolveSignals_eq
    refine ⟨o, ho, fun q => ?_⟩
    rw [lanes]
    exact ⟨rfl, s.resolvedOutputs_signal q⟩

end Sys2Proof.Machine

/-!
PROOF. The requests of the Interlock Monitors: SET_INTERLOCK (obligation O46), RELEASE_INTERLOCK and READ_INTERLOCKS (O47).
-/

namespace Sys2Proof.Machine

/-! ## The settings in a body (R163, R207) -/

theorem MonitorSettings.length_bytes (m : MonitorSettings) : m.bytes.length = 15 := by
  simp [MonitorSettings.bytes, num2, halfBytes]

theorem maskHas_setWidth {n : Nat} (hn : n ≤ 8) (m : BitVec n) : maskHas n (m.setWidth 8) = true := by
  have small := m.isLt
  have same : (m.setWidth 8).toNat = m.toNat := BitVec.toNat_setWidth_of_le hn
  exact decide_eq_true (same ▸ small)

/-- The tests of a parameter that its condition names. -/
def MonitorSettings.ParamsLegal (m : MonitorSettings) : Prop :=
  (m.condition = .keylockIs → m.keylockParam.toNat < 5) ∧
    (m.condition = .scannerNotLocked ∨ m.condition = .pacing → m.portParam.toNat < 2)

/-- Settings whose numbers fit their fields are read back as they are written. -/
theorem monitorSettingsAt_bytes (a : Byte) {m : MonitorSettings} (hq : m.qualify < 65536) (hn : m.queueParam < 65536)
    (hp : m.ParamsLegal) : monitorSettingsAt (a :: m.bytes) m.sourceLane = some m := by
  obtain ⟨keylock, port⟩ := hp
  have queue : nat2At (a :: m.bytes) 6 = m.queueParam := toNat_num2 hn
  have qualify : nat2At (a :: m.bytes) 9 = m.qualify := toNat_num2 hq
  have keylockTest : (m.condition != .keylockIs || decide (natAt (a :: m.bytes) 4 < 5)) = true := by
    rw [Bool.or_eq_true, bne_iff_ne, decide_eq_true_eq]
    exact (Classical.em _).symm.imp_right keylock
  have portTest : (!(m.condition == .scannerNotLocked || m.condition == .pacing) ||
      isFlag (byteAt (a :: m.bytes) 5)) = true := by
    rw [Bool.or_eq_true, Bool.not_eq_true', ← Bool.not_eq_true, Bool.or_eq_true, beq_iff_eq, beq_iff_eq]
    exact (Classical.em _).symm.imp_right fun named => decide_eq_true (port named)
  have tests : (isFlag (byteAt (a :: m.bytes) 1) && isFlag (byteAt (a :: m.bytes) 8) &&
      isFlag (byteAt (a :: m.bytes) 11) && maskHas 4 (byteAt (a :: m.bytes) 12) &&
      maskHas 6 (byteAt (a :: m.bytes) 13) && (m.condition != .keylockIs || decide (natAt (a :: m.bytes) 4 < 5)) &&
      (!(m.condition == .scannerNotLocked || m.condition == .pacing) || isFlag (byteAt (a :: m.bytes) 5))) = true := by
    rw [keylockTest, portTest]
    simp [MonitorSettings.bytes, num2, halfBytes, maskHas_setWidth]
  have named : conditionOf (byteAt (a :: m.bytes) 3) = some m.condition := conditionOf_code _
  have lamp : levelOf (byteAt (a :: m.bytes) 14) = some m.lampLevel := levelOf_code _
  have tone : levelOf (byteAt (a :: m.bytes) 15) = some m.toneLevel := levelOf_code _
  unfold monitorSettingsAt
  rw [named, lamp, tone]
  simp only [tests, if_true, queue, qualify]
  simp [MonitorSettings.bytes, num2, halfBytes]

theorem conditionOf_eq_none {b : Byte} (h : 5 < b.toNat) : conditionOf b = none := by
  unfold conditionOf
  rw [if_neg, if_neg, if_neg, if_neg, if_neg, if_neg] <;> rintro rfl <;> exact absurd h (by decide)

theorem levelOf_eq_none {b : Byte} (h : 1 < b.toNat) : levelOf b = none := by
  unfold levelOf
  rw [if_neg, if_neg] <;> rintro rfl <;> exact absurd h (by decide)

/-- An enumeration value of the body does not exist (R163 test 4). -/
theorem monitorSettingsAt_eq_none {b : List Byte} (q : LaneId)
    (h : 1 < natAt b 1 ∨ 5 < natAt b 3 ∨ 1 < natAt b 8 ∨ 1 < natAt b 11 ∨ 15 < natAt b 12 ∨ 63 < natAt b 13 ∨
      1 < natAt b 14 ∨ 1 < natAt b 15 ∨ (byteAt b 3 = 2 ∧ 4 < natAt b 4) ∨
      ((byteAt b 3 = 3 ∨ byteAt b 3 = 5) ∧ 1 < natAt b 5)) : monitorSettingsAt b q = none := by
  unfold monitorSettingsAt
  split
  · rename_i c lamp tone hc hlamp htone
    refine if_neg fun tests => ?_
    simp only [Bool.and_eq_true, Bool.or_eq_true, Bool.not_eq_true', bne_iff_ne, isFlag, maskHas,
      decide_eq_true_eq] at tests
    obtain ⟨⟨⟨⟨⟨⟨enabled, sense⟩, latched⟩, targets⟩, effects⟩, keylock⟩, port⟩ := tests
    unfold natAt at h keylock
    rcases h with h | h | h | h | h | h | h | h | ⟨named, h⟩ | ⟨named, h⟩
    · omega
    · exact nomatch hc.symm.trans (conditionOf_eq_none h)
    · omega
    · omega
    · omega
    · omega
    · exact nomatch hlamp.symm.trans (levelOf_eq_none h)
    · exact nomatch htone.symm.trans (levelOf_eq_none h)
    · rw [named] at hc
      obtain rfl : Condition.keylockIs = c := Option.some.inj hc
      exact absurd (keylock.resolve_left fun other => other rfl) (by omega)
    · have names : (c == .scannerNotLocked || c == .pacing) = true := by
        rcases named with named | named
        · rw [named] at hc
          obtain rfl : Condition.scannerNotLocked = c := Option.some.inj hc
          rfl
        · rw [named] at hc
          obtain rfl : Condition.pacing = c := Option.some.inj hc
          rfl
      rw [names] at port
      exact absurd (port.resolve_left nofun) (by omega)
  · rfl

/-! ## SET_INTERLOCK (R163, R164) -/

/-- SET_INTERLOCK on an index in range. -/
def setInterlockAt (i : MonitorId) (b : List Byte) (s : State) : State × Answer :=
  match laneOf (byteAt b 2) with
  | none => refuse s .badLane
  | some source =>
    match monitorSettingsAt b source with
    | none => refuse s .badArgument
    | some given =>
      ((s.rewriteMonitor i given.clamped).settle,
        .reply (carriedOut (given.clamped == given))
          (byteAt b 0 :: given.clamped.bytes ++
            [(s.monitor i).state.code, ((s.rewriteMonitor i given.clamped).monitor i).state.code]))

theorem setInterlockRule_eq : setInterlockRule = indexRule 16 8 setInterlockAt := by
  funext tag b s
  unfold setInterlockRule indexRule setInterlockAt
  cases indexOf 8 (byteAt b 0) with
  | none => rfl
  | some i =>
    cases laneOf (byteAt b 2) with
    | none => rfl
    | some q => cases h : monitorSettingsAt b q <;> simp only [h]

theorem exec_setInterlock (tag : Byte) (b : List Byte) (s : State) :
    exec (.setInterlock tag b) s = .next (s.takeWith 0x1A tag b (indexRule 16 8 setInterlockAt)) :=
  setInterlockRule_eq ▸ rfl

theorem setInterlockAt_badLane (i : MonitorId) {a e l : Byte} (h : 3 < l.toNat) (b : List Byte) (s : State) :
    setInterlockAt i (a :: e :: l :: b) s = refuse s .badLane := by
  have none : laneOf (byteAt (a :: e :: l :: b) 2) = none := laneOf_eq_none h
  unfold setInterlockAt
  rw [none]

section
variable (i : MonitorId) {b : List Byte} {q : LaneId} (s : State) (hl : laneOf (byteAt b 2) = some q)
include hl

theorem setInterlockAt_badArgument (h : monitorSettingsAt b q = none) :
    setInterlockAt i b s = refuse s .badArgument := by
  unfold setInterlockAt
  rw [hl]
  simp only [h]

theorem setInterlockAt_taken {m : MonitorSettings} (h : monitorSettingsAt b q = some m) :
    setInterlockAt i b s =
      ((s.rewriteMonitor i m.clamped).settle,
        .reply (if m.clamped = m then .ok else .adjusted)
          (byteAt b 0 :: m.clamped.bytes ++
            [(s.monitor i).state.code, ((s.rewriteMonitor i m.clamped).monitor i).state.code])) := by
  unfold setInterlockAt
  rw [hl]
  simp only [h, carriedOut_beq]

end

@[simp] theorem State.withMonitor_withMonitor (s : State) (i : MonitorId) (m n : Monitor) :
    (s.withMonitor i m).withMonitor i n = s.withMonitor i n := by
  unfold State.withMonitor
  rw [Vector.set_set]

/-- Step 1 of R164. -/
theorem State.endMonitor_eq (s : State) (i : MonitorId) (b : Bool) :
    s.endMonitor i b =
      if (s.monitor i).state = .active then
        (s.withMonitor i { s.monitor i with state := .inactive }).produce (s.monitor i).settings.sourceLane s.time
          (.interlockOff i (if b then .rewritten else .disabled))
      else s := by
  unfold State.endMonitor State.monitorEvent
  rw [State.monitor_withMonitor, if_pos rfl]

theorem State.endMonitor_time (s : State) (i : MonitorId) (b : Bool) : (s.endMonitor i b).time = s.time := by
  rw [State.endMonitor_eq]
  split
  · rw [State.produce_time]
    rfl
  · rfl

/-- Steps 2 and 3 of R164. -/
theorem State.beginMonitor_eq (s : State) (i : MonitorId) (g : MonitorSettings) :
    s.beginMonitor i g =
      if s.matchOf g = false then s.withMonitor i { settings := g, isMatch := false, state := .inactive }
      else if g.qualify = 0 then
        (s.withMonitor i { settings := g, isMatch := true, state := .active }).produce g.sourceLane s.time
          (.interlockOn i)
      else s.withMonitor i { settings := g, isMatch := true, state := .qualifying s.time } := by
  have same : (s.withMonitor i (Monitor.rewritten g)).matchOf g = s.matchOf g := rfl
  unfold State.beginMonitor State.monitorEvent
  simp only [same, State.monitor_withMonitor, if_true]
  by_cases matching : s.matchOf g = false
  · rw [if_pos matching, if_neg (Bool.eq_false_iff.1 matching)]
    rfl
  · rw [if_neg matching, if_pos (Bool.not_eq_false _ ▸ matching)]
    by_cases now : g.qualify = 0
    · rw [if_pos now]
      simp [Monitor.matchBegins, Monitor.rewritten, now]
    · rw [if_neg now]
      simp [Monitor.matchBegins, Monitor.rewritten, now]

/-- Settles O46: the tests in order on the body, and the four steps of R164 by their own equations. -/
theorem setInterlock : Obligations.SetInterlock := by
  refine ⟨wrongLengthRefused_of_indexRule exec_setInterlock, fun tag n b s ht hb hn => ?_,
    fun tag e l i b s ht hb hl => ?_, fun tag e c kp pp n1 n2 se t1 t2 la tg ef ll tl i q s ht h => ?_,
    fun tag i m g s s1 s2 ht hq hn keylock port hg hs1 hs2 => ?_⟩
  · exact exec_badIndex_of_indexRule exec_setInterlock s ht (by rw [List.length_cons, hb]) hn
  · refine (exec_index_of_indexRule exec_setInterlock s ht (by simp [hb]) (indexOf_eight i)).trans ?_
    rw [setInterlockAt_badLane i hl, State.answer_refuse]
  · refine (exec_index_of_indexRule exec_setInterlock s ht rfl (indexOf_eight i)).trans ?_
    have refused := setInterlockAt_badArgument i s
      (b := [BitVec.ofNat 8 i.val, e, laneByte q, c, kp, pp, n1, n2, se, t1, t2, la, tg, ef, ll, tl])
      (laneOf_laneByte q) (monitorSettingsAt_eq_none q h)
    rw [refused, State.answer_refuse]
  · have clamped : m.clamped = g := by
      rw [hg, MonitorSettings.clamped, clamp_zero_left]
    have first : s.endMonitor i g.enabled = s1 := by
      rw [hs1, State.endMonitor_eq]
    have time : s1.time = s.time := by
      rw [← first, State.endMonitor_time]
    have second : s1.beginMonitor i g = s2 := by
      rw [hs2, State.beginMonitor_eq, time]
    have whole : s.rewriteMonitor i g = s2.refreshEffects := by
      rw [State.rewriteMonitor, first, second]
    have after : s2.refreshEffects.monitor i = s2.monitor i := State.monitor_congr (State.refreshEffects_monitors _) i
    have taken := setInterlockAt_taken i s (b := BitVec.ofNat 8 i.val :: m.bytes) (laneOf_laneByte m.sourceLane)
      (monitorSettingsAt_bytes _ hq hn ⟨keylock, port⟩)
    rw [clamped, whole, after] at taken
    refine (exec_index_of_indexRule exec_setInterlock (b := m.bytes) s ht
      (by rw [List.length_cons, m.length_bytes]) (indexOf_eight i)).trans ?_
    rw [taken]
    rfl

/-! ## RELEASE_INTERLOCK (R162) -/

/-- RELEASE_INTERLOCK on an index in range. -/
def releaseInterlockAt (i : MonitorId) (b : List Byte) (s : State) : State × Answer :=
  if (s.monitor i).state ≠ .active then
    (s, .reply .ok [byteAt b 0, (s.monitor i).state.code, flagByte (s.monitor i).isMatch, 1])
  else if (s.monitor i).isMatch then (s, .reply .stillMatching [byteAt b 0, (s.monitor i).state.code, 1, 0])
  else if s.releaseRefused (s.monitor i) then (s, .reply .privilege [byteAt b 0, (s.monitor i).state.code, 0, 0])
  else
    ((s.turnMonitor i s.time ({ s.monitor i with state := .inactive }, .left .released)).settle,
      .reply .ok [byteAt b 0, MonitorState.inactive.code, 0, 0])

theorem releaseInterlockRule_eq : releaseInterlockRule = indexRule 1 8 releaseInterlockAt := by
  funext tag b s
  unfold releaseInterlockRule indexRule releaseInterlockAt
  cases indexOf 8 (byteAt b 0) <;> rfl

theorem exec_releaseInterlock (tag : Byte) (b : List Byte) (s : State) :
    exec (.releaseInterlock tag b) s = .next (s.takeWith 0x1B tag b (indexRule 1 8 releaseInterlockAt)) :=
  releaseInterlockRule_eq ▸ rfl

theorem State.releaseRefused_iff (s : State) (m : Monitor) :
    s.releaseRefused m = true ↔ m.settings.effects.getLsbD 3 = true ∧ s.elevated m.settings.sourceLane = false := by
  rw [State.releaseRefused, Bool.and_eq_true, Bool.not_eq_true']
  rfl

/-! ## READ_INTERLOCKS (R165) -/

theorem exec_readInterlocks (tag : Byte) (b : List Byte) (s : State) :
    exec (.readInterlocks tag b) s = .next (s.takeWith 0x1C tag b readInterlocksRule) := rfl

theorem readInterlocksRule_length (tag : Byte) (b : List Byte) (s : State) (h : b.length ≠ 0) :
    readInterlocksRule tag b s = refuse s .badArgument := if_pos h

theorem readInterlocksRule_nil (tag : Byte) (s : State) :
    readInterlocksRule tag [] s =
      (s, .reply .ok
        ((allMonitors.flatMap fun i => (s.monitor i).report s.time) ++ allLanes.flatMap s.laneForces)) :=
  if_neg (not_not_intro rfl)

theorem Monitor.timeLeft_eq (m : Monitor) (now : Time) :
    m.timeLeft now =
      match m.state with
      | .qualifying t =>
        if reached now (t + BitVec.ofNat 32 (m.settings.qualify * 10)) then 0
        else (t + BitVec.ofNat 32 (m.settings.qualify * 10) - now).toNat
      | _ => 0 := by
  unfold Monitor.timeLeft Monitor.qualifyExpiry
  cases m.state <;> rfl

theorem forcingCode_eq (s : State) (q : LaneId) (o : SignalOut) :
    forcingCode s.interlocks.monitors q o =
      num1 ((allMonitors.find? fun i => (s.monitor i).gives q (forceBit o)).elim 8 Fin.val) := by
  unfold forcingCode forcingMonitor
  change (match allMonitors.find? fun i => (s.monitor i).gives q (forceBit o) with
    | some i => num1 i.val
    | none => num1 8) = _
  cases allMonitors.find? fun i => (s.monitor i).gives q (forceBit o) <;> rfl

theorem State.laneForces_eq (s : State) (q : LaneId) :
    s.laneForces q =
      [flagByte (s.interlocks.conditions.get q).muted, flagByte (s.interlocks.conditions.get q).lockedOut,
          flagByte (s.interlocks.conditions.get q).inhibitA, flagByte (s.interlocks.conditions.get q).inhibitB] ++
        num1 ((allMonitors.find? fun i => (s.monitor i).gives q 4).elim 8 Fin.val) ++
        num1 ((allMonitors.find? fun i => (s.monitor i).gives q 5).elim 8 Fin.val) := by
  unfold State.laneForces
  simp only [forcingCode_eq]
  rfl

/-- Settles O47: the release by the tests in order, the reply of READ_INTERLOCKS from its parts. -/
theorem releaseAndReadInterlocks : Obligations.ReleaseAndReadInterlocks := by
  refine ⟨⟨wrongLengthRefused_of_indexRule exec_releaseInterlock, fun tag n s ht hn => ?_,
      fun tag i m s ht hm => ?_⟩,
    wrongLengthRefused_of_rule exec_readInterlocks readInterlocksRule_length, fun s q n => ?_, fun tag s ht => ?_⟩
  · exact exec_badIndex_of_indexRule exec_releaseInterlock s ht rfl hn
  · subst hm
    refine (exec_index_of_indexRule exec_releaseInterlock s ht rfl (indexOf_eight i)).trans ?_
    unfold releaseInterlockAt
    simp only [s.releaseRefused_iff, byteAt_zero]
    by_cases inactive : (s.monitor i).state ≠ .active
    · simp only [if_pos inactive, State.answer_reply]
    have active : (s.monitor i).state.code = 2 := by rw [not_not.1 inactive]; rfl
    by_cases matching : (s.monitor i).isMatch = true
    · simp only [if_neg inactive, if_pos matching, active, State.answer_reply]
    by_cases privilege : (s.monitor i).settings.effects.getLsbD 3 = true ∧
        s.elevated (s.monitor i).settings.sourceLane = false
    · simp only [if_neg inactive, if_neg matching, if_pos privilege, active, State.answer_reply]
    · simp only [if_neg inactive, if_neg matching, if_neg privilege, State.answer_reply, State.turnMonitor_left]
      rfl
  · funext i
    simp only [Monitor.gives, Bool.decide_and, Bool.decide_eq_true, Bool.and_assoc]
    rfl
  · refine (exec_of_rule exec_readInterlocks ht (readInterlocksRule_nil tag s)).trans ?_
    simp only [Monitor.report, Monitor.timeLeft_eq, funext s.laneForces_eq, State.answer_reply]
    rfl

end Sys2Proof.Machine

/-!
PROOF. The Lane Output Units: the levels and SET_OUTPUT (obligation O48), SET_PATTERN and the playing of patterns (O49).
-/

namespace Sys2Proof.Machine

/-! ## The levels (R166, R167) -/

theorem HostValue.levelAt_eq (h : HostValue) (now : Time) :
    h.levelAt now =
      match h with
      | .off => .off
      | .on => .on
      | .blink start => if (now - start).toNat % 1000 < 500 then .on else .off := by
  cases h with
  | blink start =>
    have half : (elapsed now start / 500 % 2 == 0) = decide ((now - start).toNat % 1000 < 500) := by
      rw [Bool.eq_iff_iff, beq_iff_eq, decide_eq_true_eq]
      show (now - start).toNat / 500 % 2 = 0 ↔ _
      omega
    simp only [HostValue.levelAt, levelWhen, half, decide_eq_true_eq]
  | _ => rfl

theorem State.forceOn_eq (s : State) (q : LaneId) (o : SignalOut) :
    forceOn s.interlocks.monitors q o =
      (allMonitors.find? fun i => (s.monitor i).gives q (forceBit o)).map fun i =>
        (s.monitor i).settings.forceLevel o := rfl

/-- The level of LAMP or TONE by its three sources. -/
theorem SignalOutput.levelAt_eq (y : SignalOutput) (now : Time) (force : Option Level) :
    y.levelAt now force =
      force.getD (y.playing.elim (y.host.levelAt now) fun p => p.current.level) := by
  unfold SignalOutput.levelAt
  cases force <;> cases y.playing <;> rfl

/-- The level of LAMP or TONE: the force of the lowest-numbered monitor, else the step played, else the host value. -/
theorem State.signalLevel_eq (s : State) (q : LaneId) (o : SignalOut) (y : SignalOutput) :
    y.levelAt s.time (forceOn s.interlocks.monitors q o) =
      match allMonitors.find? fun i => (s.monitor i).gives q (forceBit o) with
      | some i => (s.monitor i).settings.forceLevel o
      | none =>
        match y.playing with
        | some p => p.current.level
        | none => y.host.levelAt s.time := by
  rw [SignalOutput.levelAt_eq, State.forceOn_eq]
  cases allMonitors.find? fun i => (s.monitor i).gives q (forceBit o)
  · cases y.playing <;> rfl
  · rfl

theorem inhibitLevel_eq (forced enabled holding : Bool) (host : Level) :
    inhibitLevel forced enabled holding host =
      if forced = true ∨ enabled = false ∨ holding = true ∨ host = .on then .on else .off := by
  have on := inhibitLevel_on forced enabled holding host
  split
  · rename_i h
    exact on.2 h
  · rename_i h
    cases level : inhibitLevel forced enabled holding host with
    | off => rfl
    | on => exact absurd (on.1 level) h

theorem Meter.holds_iff (m : Meter) : m.holds = true ↔ ∃ t, m.pacing = .holding t := by
  unfold Meter.holds
  cases m.pacing <;> simp

theorem EffectConditions.forced_eq (c : EffectConditions) (p : PortId) :
    c.forced p = match p with | .a => c.inhibitA | .b => c.inhibitB := by
  cases p <;> rfl

/-! ## SET_OUTPUT (R170) -/

/-- The byte of LAMP or TONE (R202). -/
def signalByte : SignalOut → Byte
  | .lamp => 0
  | .tone => 1

/-- The byte of a port's inhibit (R202). -/
def inhibitByte : PortId → Byte
  | .a => 2
  | .b => 3

theorem outputOf_signalByte (o : SignalOut) : outputOf (signalByte o) = some (.inl o) := by cases o <;> rfl

theorem outputOf_inhibitByte (p : PortId) : outputOf (inhibitByte p) = some (.inr p) := by cases p <;> rfl

theorem outputOf_eq_none {b : Byte} (h : 3 < b.toNat) : outputOf b = none := by
  unfold outputOf
  rw [if_neg, if_neg, if_neg, if_neg] <;> rintro rfl <;> exact absurd h (by decide)

theorem hostValueOf_eq_none {b : Byte} (h : 2 < b.toNat) (now : Time) : hostValueOf b now = none := by
  unfold hostValueOf
  rw [if_neg, if_neg, if_neg] <;> rintro rfl <;> exact absurd h (by decide)

theorem outputOf_signal {b : Byte} {o : SignalOut} (h : outputOf b = some (.inl o)) : b.toNat ≤ 1 := by
  unfold outputOf at h
  split at h
  · rename_i zero
    subst zero
    decide
  · split at h
    · rename_i one
      subst one
      decide
    · split at h
      · exact nomatch h
      · split at h <;> exact nomatch h

/-- SET_OUTPUT on a lane. -/
def setOutputAt (q : LaneId) (b : List Byte) (s : State) : State × Answer :=
  match outputOf (byteAt b 1) with
  | none => refuse s .badArgument
  | some (.inl o) =>
    match hostValueOf (byteAt b 2) s.time with
    | none => refuse s .badArgument
    | some v =>
      (s.setSignal q o v,
        .reply .ok
          [laneByte q, byteAt b 1, byteAt b 2, flagByte ((s.outputs.get q).signal o).playing.isSome,
            (((s.setSignal q o v).outputs.get q).signal o).level.code])
  | some (.inr p) =>
    match levelOf (byteAt b 2) with
    | none => refuse s .badArgument
    | some l =>
      (s.setInhibit q p l,
        .reply .ok
          [laneByte q, byteAt b 1, byteAt b 2, 0, (((s.setInhibit q p l).outputs.get q).inhibits.get p).level.code])

theorem exec_setOutput (tag : Byte) (b : List Byte) (s : State) :
    exec (.setOutput tag b) s = .next (s.takeWith 0x1D tag b (laneRule 3 setOutputAt)) := rfl

section
variable (q : LaneId) (s : State)

theorem setOutputAt_badArgument {a o v : Byte} (h : 3 < o.toNat ∨ 2 < v.toNat ∨ (1 < o.toNat ∧ 1 < v.toNat)) :
    setOutputAt q [a, o, v] s = refuse s .badArgument := by
  unfold setOutputAt
  rw [show byteAt [a, o, v] 1 = o from rfl, show byteAt [a, o, v] 2 = v from rfl]
  split
  · rfl
  · rename_i x named
    have low := outputOf_signal named
    have high : 2 < v.toNat := by omega
    rw [hostValueOf_eq_none high]
  · rename_i p named
    have small : ¬ 3 < o.toNat := fun big => nomatch named.symm.trans (outputOf_eq_none big)
    have high : 1 < v.toNat := by omega
    rw [levelOf_eq_none high]

theorem setOutputAt_signal (o : SignalOut) {a v : Byte} {h : HostValue} (hv : hostValueOf v s.time = some h) :
    setOutputAt q [a, signalByte o, v] s =
      (s.setSignal q o h,
        .reply .ok
          [laneByte q, signalByte o, v, flagByte ((s.outputs.get q).signal o).playing.isSome,
            (((s.setSignal q o h).outputs.get q).signal o).level.code]) := by
  unfold setOutputAt
  rw [show byteAt [a, signalByte o, v] 1 = signalByte o from rfl, show byteAt [a, signalByte o, v] 2 = v from rfl,
    outputOf_signalByte]
  simp only [hv]

theorem setOutputAt_inhibit (p : PortId) (a : Byte) (l : Level) :
    setOutputAt q [a, inhibitByte p, l.code] s =
      (s.setInhibit q p l,
        .reply .ok
          [laneByte q, inhibitByte p, l.code, 0,
            (((s.setInhibit q p l).outputs.get q).inhibits.get p).level.code]) := by
  unfold setOutputAt
  rw [show byteAt [a, inhibitByte p, l.code] 1 = inhibitByte p from rfl,
    show byteAt [a, inhibitByte p, l.code] 2 = l.code from rfl, outputOf_inhibitByte]
  simp only [levelOf_code]

end

/-- Settles O48: the levels by their sources, SET_OUTPUT by the output its byte names. -/
theorem outputs : Obligations.Outputs := by
  refine ⟨⟨fun s q o f y n hy hn => ?_, fun s q p => ?_⟩, wrongLengthRefused_of_laneRule exec_setOutput,
    badLaneRefused_of_laneRule exec_setOutput, fun tag o v q s ht h => ?_, fun tag v q o h u s ht hv hu => ?_,
    fun tag q p l u s ht hu => ?_⟩
  · subst hy hn
    have level := s.signalLevel_eq q o (f ((s.outputs.get q).signal o))
    rw [HostValue.levelAt_eq] at level
    refine (congrArg (fun l => s.withOutputs q ((s.outputs.get q).withSignal o
      { f ((s.outputs.get q).signal o) with level := l })) level).trans ?_
    cases o <;> rfl
  · unfold State.resolveInhibit
    simp only [inhibitLevel_eq, Meter.holds_iff, EffectConditions.forced_eq] <;> rfl
  · refine (exec_lane_of_laneRule exec_setOutput (b := [o, v]) s ht rfl).trans ?_
    rw [setOutputAt_badArgument q s h, State.answer_refuse]
  · have named : hostValueOf v s.time = some h := by
      simp only [List.mem_cons, Prod.mk.injEq, List.not_mem_nil, or_false] at hv
      rcases hv with ⟨rfl, rfl⟩ | ⟨rfl, rfl⟩ | ⟨rfl, rfl⟩ <;> rfl
    subst hu
    refine (exec_lane_of_laneRule exec_setOutput (b := [signalByte o, v]) s ht rfl).trans ?_
    rw [setOutputAt_signal q s o named]
    rfl
  · subst hu
    refine (exec_lane_of_laneRule exec_setOutput (b := [inhibitByte p, l.code]) s ht rfl).trans ?_
    rw [setOutputAt_inhibit]
    rfl

/-! ## SET_PATTERN (R169) -/

/-- SET_PATTERN on an index in range. -/
def setPatternAt (n : Fin 8) (b : List Byte) (s : State) : State × Answer :=
  match patternAt b with
  | none => refuse s .badArgument
  | some given =>
    ({ s with patterns := s.patterns.set n.val given.clamped n.isLt },
      .reply (carriedOut (given.clamped == given)) (byteAt b 0 :: given.clamped.bytes))

theorem setPatternRule_eq : setPatternRule = indexRule 10 8 setPatternAt := by
  funext tag b s
  unfold setPatternRule indexRule setPatternAt
  cases indexOf 8 (byteAt b 0) with
  | none => rfl
  | some n => cases patternAt b <;> rfl

theorem exec_setPattern (tag : Byte) (b : List Byte) (s : State) :
    exec (.setPattern tag b) s = .next (s.takeWith 0x1E tag b (indexRule 10 8 setPatternAt)) :=
  setPatternRule_eq ▸ rfl

theorem patternStepAt_eq_none {b : List Byte} {i : Nat} (h : 1 < (byteAt b (2 + 2 * i)).toNat) :
    patternStepAt b i = none := by
  rw [patternStepAt, levelOf_eq_none h]
  rfl

theorem patternAt_eq_none {b : List Byte}
    (h : 1 < natAt b 2 ∨ 1 < natAt b 4 ∨ 1 < natAt b 6 ∨ 1 < natAt b 8) : patternAt b = none := by
  unfold patternAt
  split
  · rename_i h0 h1 h2 h3
    rcases h with h | h | h | h
    · exact nomatch h0.symm.trans (patternStepAt_eq_none h)
    · exact nomatch h1.symm.trans (patternStepAt_eq_none h)
    · exact nomatch h2.symm.trans (patternStepAt_eq_none h)
    · exact nomatch h3.symm.trans (patternStepAt_eq_none h)
  · rfl

theorem patternAt_body (a c d0 d1 d2 d3 : Byte) (l0 l1 l2 l3 : Level) :
    patternAt [a, c, l0.code, d0, l1.code, d1, l2.code, d2, l3.code, d3] =
      some
        { count := c.toNat
          steps := #v[⟨l0, d0.toNat⟩, ⟨l1, d1.toNat⟩, ⟨l2, d2.toNat⟩, ⟨l3, d3.toNat⟩] } := by
  simp [patternAt, patternStepAt, natAt]

theorem PatternStep.clamped_within (p : Prop) [Decidable p] (l : Level) (d : Nat) :
    (if p then PatternStep.clamped ⟨l, d⟩ else ⟨l, d⟩) = ⟨l, if p then max 1 d else d⟩ := by
  split <;> rfl

theorem Pattern.clamped_four {c k d0 d1 d2 d3 : Nat} (l0 l1 l2 l3 : Level) (hk : k = min 4 c) :
    Pattern.clamped { count := c, steps := #v[⟨l0, d0⟩, ⟨l1, d1⟩, ⟨l2, d2⟩, ⟨l3, d3⟩] } =
      { count := k
        steps :=
          #v[⟨l0, if 0 < k then max 1 d0 else d0⟩, ⟨l1, if 1 < k then max 1 d1 else d1⟩,
            ⟨l2, if 2 < k then max 1 d2 else d2⟩, ⟨l3, if 3 < k then max 1 d3 else d3⟩] } := by
  subst hk
  simp only [← PatternStep.clamped_within]
  rfl

theorem Pattern.four_eq_iff (c k d0 d1 d2 d3 e0 e1 e2 e3 : Nat) (l0 l1 l2 l3 : Level) :
    ({ count := k, steps := #v[⟨l0, e0⟩, ⟨l1, e1⟩, ⟨l2, e2⟩, ⟨l3, e3⟩] } : Pattern) =
        { count := c, steps := #v[⟨l0, d0⟩, ⟨l1, d1⟩, ⟨l2, d2⟩, ⟨l3, d3⟩] } ↔
      k = c ∧ e0 = d0 ∧ e1 = d1 ∧ e2 = d2 ∧ e3 = d3 := by
  simp

/-! ## The playing of patterns (R168) -/

/-- Only the value that a change gives LAMP or TONE matters. -/
theorem State.updateSignal_congr {s : State} {q : LaneId} {o : SignalOut} {f g : SignalOutput → SignalOutput}
    (h : f ((s.outputs.get q).signal o) = g ((s.outputs.get q).signal o)) :
    s.updateSignal q o f = s.updateSignal q o g := by
  unfold State.updateSignal
  simp only [h]

theorem SignalOutput.stepEnd_due {x : SignalOutput} {p : Playing} {now : Time} (hx : x.playing = some p)
    (due : reached now p.endTime = true) : x.stepEnd now = { x with playing := playFrom p.endTime p.rest } := by
  unfold SignalOutput.stepEnd
  rw [hx]
  exact if_pos due

theorem SignalOutput.stepEnd_early {x : SignalOutput} {now : Time}
    (h : ∀ p, x.playing = some p → reached now p.endTime = false) : x.stepEnd now = x := by
  unfold SignalOutput.stepEnd
  split
  · rename_i p hp
    exact if_neg (Bool.eq_false_iff.1 (h p hp))
  · rfl

theorem exec_patternStepEnd (q : LaneId) (o : SignalOut) (s : State) :
    exec (.patternStepEnd q o) s = .next (s.updateSignal q o (SignalOutput.stepEnd s.time)) := rfl

/-- Settles O49: SET_PATTERN by the steps of its body, the playing by the steps left. -/
theorem patterns : Obligations.Patterns := by
  refine ⟨⟨wrongLengthRefused_of_indexRule exec_setPattern, fun tag n b s ht hb hn => ?_,
      fun tag c l0 d0 l1 d1 l2 d2 l3 d3 n s ht h => ?_,
      fun tag c d0 d1 d2 d3 l0 l1 l2 l3 k e0 e1 e2 e3 n s ht hk h0 h1 h2 h3 => ?_⟩,
    fun now p x => ⟨fun empty => ?_, fun a l steps => ?_⟩, fun q o x p s hx hp due => ?_, fun q o s early => ?_,
    fun q o s => rfl⟩
  · exact exec_badIndex_of_indexRule exec_setPattern s ht (by rw [List.length_cons, hb]) hn
  · refine (exec_index_of_indexRule exec_setPattern s ht rfl (indexOf_eight n)).trans ?_
    have none := patternAt_eq_none (b := [BitVec.ofNat 8 n.val, c, l0, d0, l1, d1, l2, d2, l3, d3]) h
    unfold setPatternAt
    rw [none, State.answer_refuse]
  · refine (exec_index_of_indexRule exec_setPattern s ht rfl (indexOf_eight n)).trans ?_
    unfold setPatternAt
    rw [patternAt_body]
    simp only [Pattern.clamped_four l0 l1 l2 l3 hk, ← h0, ← h1, ← h2, ← h3, carriedOut_beq, Pattern.four_eq_iff,
      State.answer_reply]
    rfl
  · unfold SignalOutput.start Pattern.played
    rw [empty]
    rfl
  · unfold SignalOutput.start Pattern.played
    rw [steps]
    rfl
  · subst hx
    have ended := SignalOutput.stepEnd_due hp due
    refine ⟨fun last => ?_, fun a l next => ?_⟩
    · rw [last] at ended
      exact (exec_patternStepEnd q o s).trans (congrArg Host.Outcome.next (State.updateSignal_congr ended))
    · rw [next] at ended
      exact (exec_patternStepEnd q o s).trans (congrArg Host.Outcome.next (State.updateSignal_congr ended))
  · exact (exec_patternStepEnd q o s).trans
      (congrArg Host.Outcome.next (State.updateSignal_congr (g := id) (SignalOutput.stepEnd_early early)))

end Sys2Proof.Machine

/-!
PROOF. The Lane Mode Units: SET_LANE_ENABLES and the changes of the current set (obligation O50), attendant mode (O51).
-/

namespace Sys2Proof.Machine

/-! ## The modes of the lanes -/

theorem State.keepsModes (m : Lanes LaneMode) : KeptByBlocks fun s : State => s.modes = m := by
  constructor
  case toKeptByEvents => constructor <;> (intros; assumption)
  all_goals intros; assumption

@[simp] theorem State.settle_modes (s : State) : s.settle.modes = s.modes :=
  State.settle_keeps (State.keepsModes s.modes) s rfl

/-- No enable handed on changes a mode. -/
theorem State.handEnable_modes (q : LaneId) (s : State) (x : Enable × Bool) : (State.handEnable q s x).modes = s.modes := by
  unfold State.handEnable
  split
  · rfl
  · exact State.perform_modes _ _ _
  · rfl
  · exact State.perform_modes _ _ _
  · exact (State.grantOne_modes _).trans (State.grantOne_modes s)
  · rfl

theorem State.switchEnable_modes (q : LaneId) (s : State) (x : Enable × Bool) :
    (State.switchEnable q s x).modes =
      s.modes.set q { s.modes.get q with current := (s.modes.get q).current.withEnable x.1 x.2 } := by
  unfold State.switchEnable
  rw [State.settle_modes, State.handEnable_modes]
  rfl

/-! ## A change of the current set (R174) -/

theorem EnableSet.of_withEnable (e : EnableSet) (x y : Enable) (v : Bool) :
    (e.withEnable x v).of y = if y = x then v else e.of y := by
  match x, y with
  | .keyboard, .keyboard | .keyboard, .drawer | .drawer, .keyboard | .drawer, .drawer => rfl
  | .keyboard, .scan .a | .keyboard, .scan .b | .drawer, .scan .a | .drawer, .scan .b => rfl
  | .scan .a, .keyboard | .scan .a, .drawer | .scan .b, .keyboard | .scan .b, .drawer => rfl
  | .scan .a, .scan .a | .scan .a, .scan .b | .scan .b, .scan .a | .scan .b, .scan .b => rfl

theorem EnableSet.ext_of {e f : EnableSet} (h : ∀ y, e.of y = f.of y) : e = f := by
  obtain ⟨k, a, b, d⟩ := e
  obtain ⟨k', a', b', d'⟩ := f
  obtain rfl : k = k' := h .keyboard
  obtain rfl : a = a' := h (.scan .a)
  obtain rfl : b = b' := h (.scan .b)
  obtain rfl : d = d' := h .drawer
  rfl

theorem mem_enableChanges (old new : EnableSet) (x : Enable) (v : Bool) :
    (x, v) ∈ enableChanges old new ↔ old.of x ≠ v ∧ new.of x = v := by
  have listed : x ∈ [Enable.keyboard, .scan .a, .scan .b, .drawer] := by
    match x with
    | .keyboard | .drawer | .scan .a | .scan .b => simp
  simp only [enableChanges, List.mem_map, List.mem_filter, Prod.mk.injEq, bne_iff_ne]
  constructor
  · rintro ⟨y, ⟨-, differs⟩, rfl, rfl⟩
    exact ⟨differs, rfl⟩
  · rintro ⟨differs, rfl⟩
    exact ⟨x, ⟨listed, differs⟩, rfl, rfl⟩

theorem enableChanges_self (e : EnableSet) : enableChanges e e = [] := by
  simp [enableChanges]

/-- Changes that lead to a set lead the lane to it, and no other mode changes. -/
theorem State.foldl_switchEnable_modes {new : EnableSet} (q : LaneId) : ∀ (l : List (Enable × Bool)) (s : State),
    (∀ x ∈ l, x.2 = new.of x.1) →
    (∀ y, (s.modes.get q).current.of y = new.of y ∨ (y, new.of y) ∈ l) →
    (l.foldl (State.switchEnable q) s).modes = s.modes.set q { s.modes.get q with current := new }
  | [], s, _, reached => by
    have same : (s.modes.get q).current = new := EnableSet.ext_of fun y => (reached y).resolve_right nofun
    rw [← same]
    exact (Lanes.set_get_self _ _).symm
  | x :: l, s, values, reached => by
    have after : ((State.switchEnable q s x).modes.get q).current = (s.modes.get q).current.withEnable x.1 x.2 := by
      rw [State.switchEnable_modes, Lanes.get_set_self]
    have rest := State.foldl_switchEnable_modes (new := new) q l (State.switchEnable q s x)
      (fun y hy => values y (List.mem_cons_of_mem _ hy)) fun y => by
        rw [after, EnableSet.of_withEnable]
        split
        · rename_i here
          exact Or.inl (here ▸ values x List.mem_cons_self)
        · rename_i other
          refine (reached y).imp_right fun due => ?_
          rcases List.mem_cons.1 due with first | later
          · exact absurd (congrArg Prod.fst first) other
          · exact later
    rw [List.foldl_cons, rest, State.switchEnable_modes, Lanes.set_set, Lanes.get_set_self]

theorem State.inOrder_modes {α : Type} (s : State) (l : List α) : (s.inOrder l).2.modes = s.modes :=
  (s.inOrder_same l).2.2.2.2.2.2.2

/-- The current set of the lane is the new one, and no other mode changes. -/
theorem State.setCurrent_modes (s : State) (q : LaneId) (new : EnableSet) :
    (s.setCurrent q new).modes = s.modes.set q { s.modes.get q with current := new } := by
  have order := s.perm_inOrder (enableChanges (s.modes.get q).current new)
  unfold State.setCurrent
  simp only
  rw [State.foldl_switchEnable_modes (new := new) q _ _ (fun x hx => ?_) fun y => ?_, State.inOrder_modes]
  · exact ((mem_enableChanges _ _ x.1 x.2).1 (order.mem_iff.1 hx)).2.symm
  · rw [State.inOrder_modes]
    refine (Classical.em _).imp_right fun differs => ?_
    exact order.mem_iff.2 ((mem_enableChanges _ _ _ _).2 ⟨differs, rfl⟩)

theorem State.setCurrent_of_nil {s : State} {q : LaneId} {new : EnableSet}
    (h : enableChanges (s.modes.get q).current new = []) : s.setCurrent q new = s := by
  unfold State.setCurrent
  rw [h]
  rfl

theorem State.setCurrent_of_one {s : State} {q : LaneId} {new : EnableSet} {x : Enable × Bool}
    (h : enableChanges (s.modes.get q).current new = [x]) : s.setCurrent q new = s.switchEnable q x := by
  unfold State.setCurrent
  rw [h]
  rfl

theorem State.setCurrent_of_more {s : State} {q : LaneId} {new : EnableSet}
    (h : 2 ≤ (enableChanges (s.modes.get q).current new).length) :
    ∃ l : List (Enable × Bool), l.Perm (enableChanges (s.modes.get q).current new) ∧
      s.setCurrent q new = l.foldl (State.switchEnable q) { s with freeIndex := s.freeIndex + 1 } := by
  refine ⟨_, s.perm_inOrder _, ?_⟩
  have chosen : (s.inOrder (enableChanges (s.modes.get q).current new)).2 = { s with freeIndex := s.freeIndex + 1 } := by
    unfold State.inOrder
    rw [if_neg (Nat.not_lt.2 h)]
  unfold State.setCurrent
  simp only [chosen]

/-! ## SET_LANE_ENABLES (R175) -/

/-- SET_LANE_ENABLES on a lane. -/
def setLaneEnablesAt (q : LaneId) (b : List Byte) (s : State) : State × Answer :=
  if isFlag (byteAt b 1) && maskHas 4 (byteAt b 2) then
    ((s.writeEnables q (flagOf (byteAt b 1)) (enableSetOf (byteAt b 2))).1,
      .reply .ok
        [laneByte q, byteAt b 1, (s.writeEnables q (flagOf (byteAt b 1)) (enableSetOf (byteAt b 2))).2,
          (((s.writeEnables q (flagOf (byteAt b 1)) (enableSetOf (byteAt b 2))).1.modes.get q).current).mask,
          flagByte ((s.writeEnables q (flagOf (byteAt b 1)) (enableSetOf (byteAt b 2))).1.modes.get q).attendant])
  else refuse s .badArgument

theorem exec_setLaneEnables (tag : Byte) (b : List Byte) (s : State) :
    exec (.setLaneEnables tag b) s = .next (s.takeWith 0x05 tag b (laneRule 3 setLaneEnablesAt)) := rfl

theorem setLaneEnablesAt_badArgument (q : LaneId) {a t m : Byte} (s : State) (h : 1 < t.toNat ∨ 15 < m.toNat) :
    setLaneEnablesAt q [a, t, m] s = refuse s .badArgument := by
  refine if_neg ?_
  rw [Bool.and_eq_true, not_and_or]
  refine h.imp (fun flag => Bool.eq_false_iff.1 (isFlag_eq_false flag)) fun mask => ?_
  exact Bool.eq_false_iff.1 (decide_eq_false (by show ¬ m.toNat < 2 ^ 4; omega))

/-- SET_LANE_ENABLES with a target and a set that exist. -/
theorem exec_setLaneEnables_taken {tag : Byte} (ht : tag ≠ 0) (q : LaneId) (toAttendant : Bool) (e : EnableSet)
    {s u : State} {sets : Byte} (hu : s.writeEnables q toAttendant e = (u, sets)) :
    exec (.setLaneEnables tag [laneByte q, flagByte toAttendant, e.mask]) s =
      .next (u.replied tag 0x05 .ok
        [laneByte q, flagByte toAttendant, sets, (u.modes.get q).current.mask, flagByte (u.modes.get q).attendant]) := by
  refine (exec_lane_of_laneRule exec_setLaneEnables (b := [flagByte toAttendant, e.mask]) s ht rfl).trans ?_
  have tests : (isFlag (flagByte toAttendant) && maskHas 4 e.mask) = true := by
    rw [isFlag_flagByte, EnableSet.mask_lt]
    rfl
  unfold setLaneEnablesAt
  rw [show byteAt [laneByte q, flagByte toAttendant, e.mask] 1 = flagByte toAttendant from rfl,
    show byteAt [laneByte q, flagByte toAttendant, e.mask] 2 = e.mask from rfl, flagOf_flagByte, enableSetOf_mask, hu,
    if_pos tests, State.answer_reply]

section
variable {s : State} {q : LaneId} (e : EnableSet)

theorem State.writeEnables_current (h : (s.modes.get q).attendant = false) :
    s.writeEnables q false e = (s.setCurrent q e, 1) := by
  unfold State.writeEnables
  simp only [h]

theorem State.writeEnables_saved (h : (s.modes.get q).attendant = true) :
    s.writeEnables q false e = ({ s with modes := s.modes.set q { s.modes.get q with saved := e } }, 2) := by
  unfold State.writeEnables
  simp only [h]

theorem State.writeEnables_attendantSet (h : (s.modes.get q).attendant = false) :
    s.writeEnables q true e = ({ s with modes := s.modes.set q { s.modes.get q with attendantSet := e } }, 4) := by
  unfold State.writeEnables
  simp only [h]

theorem State.writeEnables_attendant (h : (s.modes.get q).attendant = true) :
    s.writeEnables q true e =
      ({ s with modes := s.modes.set q { s.modes.get q with attendantSet := e } }.setCurrent q e, 5) := by
  unfold State.writeEnables
  simp only [h]

end

/-- Settles O50: the set is written where target and flag say; the current set is changed one enable after another. -/
theorem laneEnables : Obligations.LaneEnables := by
  refine ⟨⟨wrongLengthRefused_of_laneRule exec_setLaneEnables, badLaneRefused_of_laneRule exec_setLaneEnables,
      fun tag t m q s ht h => ?_, fun tag e q m u s ht hm => ⟨fun off hu => ?_, fun on => ?_, fun off => ?_,
        fun on hu => ?_⟩⟩,
    fun s q => State.setCurrent_of_nil (enableChanges_self _), fun s q new x v h => State.setCurrent_of_one h,
    fun s q new h => State.setCurrent_of_more h, mem_enableChanges, fun s q k hk => ?_, fun s q p x hx => ?_,
    fun s q => ⟨rfl, rfl⟩, fun s q x v m hm => ⟨m.current.withEnable x v, ?_, ?_, fun y hy => ?_⟩⟩
  · refine (exec_lane_of_laneRule exec_setLaneEnables (b := [t, m]) s ht rfl).trans ?_
    rw [setLaneEnablesAt_badArgument q s h, State.answer_refuse]
  · subst hm hu
    refine (exec_setLaneEnables_taken ht q false e (State.writeEnables_current e off)).trans ?_
    rw [State.setCurrent_modes, Lanes.get_set_self, off]
    rfl
  · subst hm
    refine (exec_setLaneEnables_taken ht q false e (State.writeEnables_saved e on)).trans ?_
    simp only [Lanes.get_set_self, on]
    rfl
  · subst hm
    refine (exec_setLaneEnables_taken ht q true e (State.writeEnables_attendantSet e off)).trans ?_
    simp only [Lanes.get_set_self, off]
    rfl
  · subst hm hu
    refine (exec_setLaneEnables_taken ht q true e (State.writeEnables_attendant e on)).trans ?_
    simp only [State.setCurrent_modes, Lanes.get_set_self, on]
    rfl
  · subst hk
    exact ⟨rfl, rfl⟩
  · subst hx
    exact ⟨rfl, fun r hr => hr ▸ rfl⟩
  · subst hm
    rfl
  · rw [EnableSet.of_withEnable, if_pos rfl]
  · rw [EnableSet.of_withEnable, if_neg hy]

/-! ## Attendant mode (R176, R177) -/

theorem exec_enterAttendant (tag : Byte) (b : List Byte) (s : State) :
    exec (.enterAttendant tag b) s = .next (s.takeWith 0x1F tag b enterAttendantRule) := rfl

theorem exec_leaveAttendant (tag : Byte) (b : List Byte) (s : State) :
    exec (.leaveAttendant tag b) s = .next (s.takeWith 0x20 tag b leaveAttendantRule) := rfl

/-- The modes after an event, which the monitors follow, and a new current set. -/
theorem State.produced_setCurrent_modes (s : State) (q : LaneId) (t : Time) (b : EventBody) (e : EnableSet) :
    ((s.produce q t b).settle.setCurrent q e).modes = s.modes.set q { s.modes.get q with current := e } := by
  rw [State.setCurrent_modes, State.settle_modes, State.produce_modes]

/-- Settles O51: each request by the attendant flag it finds. -/
theorem attendantMode : Obligations.AttendantMode := by
  refine ⟨wrongLengthRefused_of_laneRule exec_enterAttendant, badLaneRefused_of_laneRule exec_enterAttendant,
    wrongLengthRefused_of_laneRule exec_leaveAttendant, badLaneRefused_of_laneRule exec_leaveAttendant,
    fun tag q m u s ht hm => ⟨fun on => ?_, fun off hu => ?_, fun off => ?_, fun on hu => ?_⟩⟩ <;> subst hm
  · refine (exec_lane_of_laneRule exec_enterAttendant (b := []) s ht rfl).trans ?_
    rw [if_pos on, State.answer_refuse]
  · refine (exec_lane_of_laneRule exec_enterAttendant (b := []) s ht rfl).trans ?_
    rw [if_neg (Bool.eq_false_iff.1 off)]
    have entered : s.enterAttendant q = u := hu.symm
    have modes : u.modes.get q =
        { s.modes.get q with
          current := (s.modes.get q).attendantSet, saved := (s.modes.get q).current, attendant := true } := by
      rw [hu, State.produced_setCurrent_modes, Lanes.get_set_self, Lanes.get_set_self]
    simp only [entered, modes, State.answer_reply]
  · refine (exec_lane_of_laneRule exec_leaveAttendant (b := []) s ht rfl).trans ?_
    rw [if_neg (Bool.eq_false_iff.1 off), State.answer_reply]
  · refine (exec_lane_of_laneRule exec_leaveAttendant (b := []) s ht rfl).trans ?_
    rw [if_pos on]
    have left : s.leaveAttendant q .leaveRequest = u := hu.symm
    have modes : u.modes.get q =
        { s.modes.get q with current := (s.modes.get q).saved, attendant := false } := by
      rw [hu, State.produced_setCurrent_modes, Lanes.get_set_self, Lanes.get_set_self]
    simp only [left, modes, State.answer_reply]

end Sys2Proof.Machine

/-!
PROOF. SET_KEYS (obligation O31). One entry written keeps or drops its key and touches no other; a run of entries is then
followed by induction, for a position outside it and for the position of one of its entries.
-/

namespace Sys2Proof.Machine

/-! ## One entry (R58) -/

/-- Two units that differ at most in what writing the key table changes. -/
def Keyboard.SameButKeys (k k' : Keyboard) : Prop :=
  k' = { k with keyTable := k'.keyTable, waiting := k'.waiting, blocked := k'.blocked, absorbed := k'.absorbed }

theorem Keyboard.SameButKeys.trans {k k' k'' : Keyboard} (h : k.SameButKeys k') (h' : k'.SameButKeys k'') :
    k.SameButKeys k'' := by
  unfold Keyboard.SameButKeys at *
  rw [h'] at *
  rw [h]

theorem Keyboard.SameButKeys.reads {k k' : Keyboard} (h : k.SameButKeys k') (p : KeyPos) :
    k'.isReported p = k.isReported p ∧ k'.down p = k.down p := by
  unfold Keyboard.SameButKeys at h
  rw [h]
  exact ⟨rfl, rfl⟩

section
variable {k : Keyboard} {p : KeyPos} {e : KeyEntry}

theorem Keyboard.writeEntry_of_reported (h : k.isReported p = true) :
    k.writeEntry p e = { k with keyTable := k.keyTable.set p.val e p.isLt } := if_pos h

theorem Keyboard.writeEntry_of_ignored (h : k.isReported p = false) (he : e.code = 0) :
    k.writeEntry p e =
      { k with
        keyTable := k.keyTable.set p.val e p.isLt
        waiting := k.waiting.filter fun x => x != p
        blocked := k.blocked.filter fun x => x.position != p
        absorbed := k.absorbed &&& ~~~(BitVec.twoPow 128 p.val) } := by
  unfold Keyboard.writeEntry
  simp only [if_neg (Bool.eq_false_iff.1 h), if_pos he]

theorem Keyboard.writeEntry_of_coded (h : k.isReported p = false) (he : e.code ≠ 0) :
    k.writeEntry p e =
      { k with
        keyTable := k.keyTable.set p.val e p.isLt
        absorbed :=
          if k.down p && !k.waiting.contains p && !k.isBlocked p then k.absorbed ||| BitVec.twoPow 128 p.val
          else k.absorbed } := by
  unfold Keyboard.writeEntry
  simp only [if_neg (Bool.eq_false_iff.1 h), if_neg he]
  split <;> rfl

end

theorem Keyboard.writeEntry_cases (k : Keyboard) (p : KeyPos) (e : KeyEntry) :
    k.isReported p = true ∨ (k.isReported p = false ∧ e.code = 0) ∨ (k.isReported p = false ∧ e.code ≠ 0) := by
  cases k.isReported p
  · exact Or.inr ((Classical.em _).imp (fun h => ⟨rfl, h⟩) fun h => ⟨rfl, h⟩)
  · exact Or.inl rfl

theorem Keyboard.writeEntry_sameButKeys (k : Keyboard) (p : KeyPos) (e : KeyEntry) :
    k.SameButKeys (k.writeEntry p e) := by
  rcases k.writeEntry_cases p e with h | ⟨h, he⟩ | ⟨h, he⟩
  · rw [Keyboard.writeEntry_of_reported h]
    rfl
  · rw [Keyboard.writeEntry_of_ignored h he]
    rfl
  · rw [Keyboard.writeEntry_of_coded h he]
    rfl

@[simp] theorem Keyboard.writeEntry_keyTable (k : Keyboard) (p : KeyPos) (e : KeyEntry) :
    (k.writeEntry p e).keyTable = k.keyTable.set p.val e p.isLt := by
  rcases k.writeEntry_cases p e with h | ⟨h, he⟩ | ⟨h, he⟩
  · rw [Keyboard.writeEntry_of_reported h]
  · rw [Keyboard.writeEntry_of_ignored h he]
  · rw [Keyboard.writeEntry_of_coded h he]

/-- The entry written at p leaves the key at x in its list. -/
def Keyboard.keeps (k : Keyboard) (p : KeyPos) (e : KeyEntry) (x : KeyPos) : Bool :=
  x != p || k.isReported p || e.code != 0

theorem Keyboard.writeEntry_lists (k : Keyboard) (p : KeyPos) (e : KeyEntry) :
    (k.writeEntry p e).waiting = k.waiting.filter (k.keeps p e) ∧
      (k.writeEntry p e).blocked = k.blocked.filter fun b => k.keeps p e b.position := by
  have all : k.isReported p = true ∨ e.code ≠ 0 → ∀ x, k.keeps p e x = true := by
    intro h x
    rcases h with h | h
    · simp [Keyboard.keeps, h]
    · rw [Keyboard.keeps, bne_iff_ne.2 h, Bool.or_true]
  have stay : k.isReported p = true ∨ e.code ≠ 0 →
      k.waiting.filter (k.keeps p e) = k.waiting ∧
        (k.blocked.filter fun b => k.keeps p e b.position) = k.blocked := fun h =>
    ⟨List.filter_eq_self.2 fun x _ => all h x, List.filter_eq_self.2 fun b _ => all h b.position⟩
  rcases k.writeEntry_cases p e with h | ⟨h, he⟩ | ⟨h, he⟩
  · rw [Keyboard.writeEntry_of_reported h]
    exact ⟨(stay (Or.inl h)).1.symm, (stay (Or.inl h)).2.symm⟩
  · rw [Keyboard.writeEntry_of_ignored h he]
    have drops : k.keeps p e = fun x => x != p := by
      funext x
      simp [Keyboard.keeps, h, he]
    rw [drops]
    exact ⟨rfl, rfl⟩
  · rw [Keyboard.writeEntry_of_coded h he]
    exact ⟨(stay (Or.inr he)).1.symm, (stay (Or.inr he)).2.symm⟩

theorem any_filter_position (l : List BlockedKey) (f : KeyPos → Bool) (o : KeyPos) (h : f o = true) :
    ((l.filter fun b => f b.position).any fun b => b.position == o) = l.any fun b => b.position == o := by
  rw [List.any_filter]
  refine List.any_congr rfl fun b => ?_
  by_cases here : b.position = o
  · rw [here, h, Bool.true_and]
  · rw [beq_eq_false_iff_ne.2 here, Bool.and_false]

/-- The key at a position stands in two units alike. -/
def Keyboard.SameAt (p : KeyPos) (k k' : Keyboard) : Prop :=
  k'.keyTable.get p = k.keyTable.get p ∧ (p ∈ k'.waiting ↔ p ∈ k.waiting) ∧ k'.isBlocked p = k.isBlocked p ∧
    k'.isAbsorbed p = k.isAbsorbed p

theorem Keyboard.SameAt.refl (p : KeyPos) (k : Keyboard) : Keyboard.SameAt p k k := ⟨rfl, Iff.rfl, rfl, rfl⟩

theorem Keyboard.SameAt.trans {p : KeyPos} {k k' k'' : Keyboard} (h : Keyboard.SameAt p k k')
    (h' : Keyboard.SameAt p k' k'') : Keyboard.SameAt p k k'' :=
  ⟨h'.1.trans h.1, h'.2.1.trans h.2.1, h'.2.2.1.trans h.2.2.1, h'.2.2.2.trans h.2.2.2⟩

theorem Keyboard.writeEntry_isAbsorbed_other (k : Keyboard) {p o : KeyPos} (e : KeyEntry) (h : o ≠ p) :
    (k.writeEntry p e).isAbsorbed o = k.isAbsorbed o := by
  unfold Keyboard.isAbsorbed
  rcases k.writeEntry_cases p e with hr | ⟨hr, he⟩ | ⟨hr, he⟩
  · rw [Keyboard.writeEntry_of_reported hr]
  · rw [Keyboard.writeEntry_of_ignored hr he]
    simp only [getLsbD_clear]
    simp [h]
  · rw [Keyboard.writeEntry_of_coded hr he]
    simp only
    split
    · rw [BitVec.getLsbD_or, getLsbD_twoPow_position, decide_eq_false h, Bool.or_false]
    · rfl

/-- An entry leaves the keys at the other positions as they are. -/
theorem Keyboard.writeEntry_other (k : Keyboard) {p o : KeyPos} (e : KeyEntry) (h : o ≠ p) :
    Keyboard.SameAt o k (k.writeEntry p e) := by
  have kept : k.keeps p e o = true := by simp [Keyboard.keeps, h]
  obtain ⟨waiting, blocked⟩ := k.writeEntry_lists p e
  refine ⟨?_, ?_, ?_, k.writeEntry_isAbsorbed_other e h⟩
  · rw [Keyboard.writeEntry_keyTable]
    exact Vector.getElem_set_ne _ _ fun same => h (Fin.ext same.symm)
  · rw [waiting, List.mem_filter]
    exact and_iff_left kept
  · unfold Keyboard.isBlocked
    rw [blocked, any_filter_position _ _ _ kept]

/-- The key of an entry written, by the table of R58. -/
def Keyboard.Written (p : KeyPos) (e : KeyEntry) (k k' : Keyboard) : Prop :=
  k'.keyTable.get p = e ∧
    (k.isReported p = true →
      (p ∈ k'.waiting ↔ p ∈ k.waiting) ∧ k'.isBlocked p = k.isBlocked p ∧ k'.isAbsorbed p = k.isAbsorbed p) ∧
    (k.isReported p = false → e.code = 0 → p ∉ k'.waiting ∧ k'.isBlocked p = false ∧ k'.isAbsorbed p = false) ∧
    (k.isReported p = false → e.code ≠ 0 →
      (p ∈ k'.waiting ↔ p ∈ k.waiting) ∧ k'.isBlocked p = k.isBlocked p ∧
      k'.isAbsorbed p = (k.isAbsorbed p || (k.down p && decide (p ∉ k.waiting) && !k.isBlocked p)))

theorem Keyboard.writeEntry_written (k : Keyboard) (p : KeyPos) (e : KeyEntry) :
    Keyboard.Written p e k (k.writeEntry p e) := by
  refine ⟨?_, fun h => ?_, fun h he => ?_, fun h he => ?_⟩
  · rw [Keyboard.writeEntry_keyTable]
    exact Vector.getElem_set_self _
  · rw [Keyboard.writeEntry_of_reported h]
    exact ⟨Iff.rfl, rfl, rfl⟩
  · rw [Keyboard.writeEntry_of_ignored h he]
    refine ⟨by simp, ?_, ?_⟩
    · simp [Keyboard.isBlocked]
    · unfold Keyboard.isAbsorbed
      simp only [getLsbD_clear]
      simp
  · rw [Keyboard.writeEntry_of_coded h he]
    refine ⟨Iff.rfl, rfl, ?_⟩
    unfold Keyboard.isAbsorbed
    have absent : (!k.waiting.contains p) = decide (p ∉ k.waiting) := by simp
    simp only [absent]
    cases k.down p && decide (p ∉ k.waiting) && !k.isBlocked p
    · rw [if_neg Bool.false_ne_true, Bool.or_false]
    · rw [if_pos rfl, BitVec.getLsbD_or, getLsbD_twoPow_position, decide_eq_true rfl]

theorem Keyboard.Written.congr {p : KeyPos} {e : KeyEntry} {k k1 w k' : Keyboard} (h : Keyboard.Written p e k1 w)
    (same : Keyboard.SameAt p k k1) (rest : k.SameButKeys k1) (same' : Keyboard.SameAt p w k') :
    Keyboard.Written p e k k' := by
  obtain ⟨-, waiting, blocked, absorbed⟩ := same
  obtain ⟨table', waiting', blocked', absorbed'⟩ := same'
  obtain ⟨reported, down⟩ := rest.reads p
  unfold Keyboard.Written at *
  simp only [reported, down, blocked, absorbed, waiting] at h
  rw [table', waiting', blocked', absorbed']
  exact h

/-! ## A run of entries -/

theorem Keyboard.writeEntries_cons (n : Nat) (e : KeyEntry) (l : List KeyEntry) (k : Keyboard) (h : n < 128) :
    Keyboard.writeEntries n (e :: l) k = Keyboard.writeEntries (n + 1) l (k.writeEntry ⟨n, h⟩ e) := by
  rw [Keyboard.writeEntries, dif_pos h]

theorem Keyboard.writeEntries_sameButKeys : ∀ (l : List KeyEntry) (n : Nat) (k : Keyboard), n + l.length ≤ 128 →
    k.SameButKeys (Keyboard.writeEntries n l k)
  | [], _, _, _ => rfl
  | e :: l, n, k, h => by
    rw [List.length_cons] at h
    rw [Keyboard.writeEntries_cons n e l k (by omega)]
    exact (k.writeEntry_sameButKeys _ e).trans (Keyboard.writeEntries_sameButKeys l (n + 1) _ (by omega))

/-- The entries written from position n on leave the key at x in its list. -/
def Keyboard.keepsAll (k : Keyboard) (n : Nat) (l : List KeyEntry) (x : KeyPos) : Bool :=
  decide (x.val < n) || decide (n + l.length ≤ x.val) || k.isReported x || l[x.val - n]?.any fun e => e.code != 0

theorem Keyboard.keepsAll_iff (k : Keyboard) (n : Nat) (l : List KeyEntry) (x : KeyPos) :
    k.keepsAll n l x = true ↔
      x.val < n ∨ n + l.length ≤ x.val ∨ k.isReported x = true ∨ ∃ e, l[x.val - n]? = some e ∧ e.code ≠ 0 := by
  simp only [Keyboard.keepsAll, Bool.or_eq_true, decide_eq_true_eq, Option.any_eq_true, bne_iff_ne, or_assoc]

theorem Keyboard.keepsAll_nil (k : Keyboard) (n : Nat) (x : KeyPos) : k.keepsAll n [] x = true := by
  rw [Keyboard.keepsAll_iff, List.length_nil]
  omega

theorem Keyboard.keepsAll_cons (k : Keyboard) (n : Nat) (e : KeyEntry) (l : List KeyEntry) (h : n < 128) (x : KeyPos) :
    k.keepsAll n (e :: l) x = (k.keeps ⟨n, h⟩ e x && (k.writeEntry ⟨n, h⟩ e).keepsAll (n + 1) l x) := by
  have reported := ((k.writeEntry_sameButKeys ⟨n, h⟩ e).reads x).1
  rw [Bool.eq_iff_iff, Bool.and_eq_true, Keyboard.keepsAll_iff, Keyboard.keepsAll_iff, reported, List.length_cons]
  rcases Nat.lt_trichotomy x.val n with before | here | beyond
  · have other : k.keeps ⟨n, h⟩ e x = true := by
      simp [Keyboard.keeps, Fin.ext_iff, Nat.ne_of_lt before]
    exact iff_of_true (Or.inl before) ⟨other, Or.inl (Nat.lt_succ_of_lt before)⟩
  · obtain rfl : x = ⟨n, h⟩ := Fin.ext here
    simp [Keyboard.keeps]
  · have other : k.keeps ⟨n, h⟩ e x = true := by
      simp [Keyboard.keeps, Fin.ext_iff, Nat.ne_of_gt beyond]
    obtain ⟨d, hd⟩ : ∃ d, x.val = n + 1 + d := Nat.exists_eq_add_of_lt beyond |>.imp fun d hd => by omega
    rw [show x.val - n = d + 1 by omega, show x.val - (n + 1) = d by omega, List.getElem?_cons_succ]
    simp only [other, true_and]
    refine or_congr ?_ (or_congr ?_ Iff.rfl) <;> omega

theorem Keyboard.writeEntries_lists : ∀ (l : List KeyEntry) (n : Nat) (k : Keyboard), n + l.length ≤ 128 →
    (Keyboard.writeEntries n l k).waiting = k.waiting.filter (k.keepsAll n l) ∧
      (Keyboard.writeEntries n l k).blocked = k.blocked.filter fun b => k.keepsAll n l b.position
  | [], n, k, _ =>
    ⟨(List.filter_eq_self.2 fun x _ => k.keepsAll_nil n x).symm,
      (List.filter_eq_self.2 fun b _ => k.keepsAll_nil n b.position).symm⟩
  | e :: l, n, k, h => by
    rw [List.length_cons] at h
    have within : n < 128 := by omega
    obtain ⟨waiting, blocked⟩ := Keyboard.writeEntries_lists l (n + 1) (k.writeEntry ⟨n, within⟩ e) (by omega)
    obtain ⟨waiting', blocked'⟩ := k.writeEntry_lists ⟨n, within⟩ e
    rw [Keyboard.writeEntries_cons n e l k within, waiting, blocked, waiting', blocked', List.filter_filter,
      List.filter_filter, funext (k.keepsAll_cons n e l within)]
    simp only [Bool.and_comm, and_self]

theorem Keyboard.writeEntries_outside : ∀ (l : List KeyEntry) (n : Nat) (k : Keyboard) (p : KeyPos),
    n + l.length ≤ 128 → p.val < n ∨ n + l.length ≤ p.val → Keyboard.SameAt p k (Keyboard.writeEntries n l k)
  | [], _, k, p, _, _ => Keyboard.SameAt.refl p k
  | e :: l, n, k, p, h, away => by
    rw [List.length_cons] at h away
    have within : n < 128 := by omega
    rw [Keyboard.writeEntries_cons n e l k within]
    have other : p ≠ ⟨n, within⟩ := fun same => by
      have : p.val = n := congrArg Fin.val same
      omega
    exact (k.writeEntry_other e other).trans (Keyboard.writeEntries_outside l (n + 1) _ p (by omega) (by omega))

/-- The key of an entry of the run: the entries before it and after it leave it alone. -/
theorem Keyboard.writeEntries_inside : ∀ (l : List KeyEntry) (n : Nat) (k : Keyboard) (p : KeyPos) (e : KeyEntry),
    n + l.length ≤ 128 → n ≤ p.val → l[p.val - n]? = some e →
    Keyboard.Written p e k (Keyboard.writeEntries n l k)
  | [], _, _, _, _, _, _, he => nomatch he
  | x :: l, n, k, p, e, h, low, he => by
    rw [List.length_cons] at h
    have within : n < 128 := by omega
    rw [Keyboard.writeEntries_cons n x l k within]
    rcases Nat.eq_or_lt_of_le low with here | beyond
    · obtain rfl : ⟨n, within⟩ = p := Fin.ext here
      rw [Nat.sub_self] at he
      obtain rfl : x = e := Option.some.inj he
      exact (k.writeEntry_written _ x).congr (Keyboard.SameAt.refl _ k) rfl
        (Keyboard.writeEntries_outside l (n + 1) _ _ (by omega) (Or.inl (Nat.lt_succ_self n)))
    · have other : p ≠ ⟨n, within⟩ := fun same => Nat.ne_of_gt beyond (congrArg Fin.val same)
      have later : l[p.val - (n + 1)]? = some e := by
        rw [show p.val - n = (p.val - (n + 1)) + 1 by omega, List.getElem?_cons_succ] at he
        exact he
      exact (Keyboard.writeEntries_inside l (n + 1) _ p e (by omega) beyond later).congr (k.writeEntry_other x other)
        (k.writeEntry_sameButKeys _ x) (Keyboard.SameAt.refl p _)

/-! ## The entries in a body (R207) -/

/-- The two bytes of an entry. -/
def KeyEntry.bytes (e : KeyEntry) : List Byte :=
  [e.code, (if e.repeatable then 1 else 0) ||| (if e.repeatRelease then 2 else 0)]

theorem KeyEntry.length_flatMap_bytes (l : List KeyEntry) : (l.flatMap KeyEntry.bytes).length = 2 * l.length := by
  induction l with
  | nil => rfl
  | cons e l ih =>
    rw [List.flatMap_cons, List.length_append, ih, List.length_cons, KeyEntry.bytes]
    simp only [List.length_cons, List.length_nil]
    omega

theorem KeyEntry.flags (e : KeyEntry) :
    ((if e.repeatable then 1 else 0 : Byte) ||| (if e.repeatRelease then 2 else 0)).getLsbD 0 = e.repeatable ∧
      ((if e.repeatable then 1 else 0 : Byte) ||| (if e.repeatRelease then 2 else 0)).getLsbD 1 = e.repeatRelease ∧
      maskHas 2 ((if e.repeatable then 1 else 0 : Byte) ||| (if e.repeatRelease then 2 else 0)) = true := by
  cases e.repeatable <;> cases e.repeatRelease <;> decide

section
variable (a b c : Byte)

theorem byteAt_code (m : List Byte) (i : Nat) : byteAt (a :: b :: c :: m) (3 + 2 * i) = byteAt m (2 * i) := by
  rw [show 3 + 2 * i = 2 * i + 1 + 1 + 1 by omega, byteAt_succ, byteAt_succ, byteAt_succ]

theorem byteAt_flags (m : List Byte) (i : Nat) : byteAt (a :: b :: c :: m) (4 + 2 * i) = byteAt m (2 * i + 1) := by
  rw [show 4 + 2 * i = 2 * i + 1 + 1 + 1 + 1 by omega, byteAt_succ, byteAt_succ, byteAt_succ]

theorem byteAt_bytes_append (e : KeyEntry) (m : List Byte) (i : Nat) : byteAt (e.bytes ++ m) (i + 2) = byteAt m i := rfl

theorem keyEntryAt_succ (e : KeyEntry) (m : List Byte) (i : Nat) :
    keyEntryAt (a :: b :: c :: (e.bytes ++ m)) (i + 1) = keyEntryAt (a :: b :: c :: m) i := by
  unfold keyEntryAt
  rw [byteAt_code, byteAt_flags, byteAt_code, byteAt_flags, show 2 * (i + 1) = 2 * i + 2 by omega, byteAt_bytes_append,
    show 2 * i + 2 + 1 = 2 * i + 1 + 2 by omega, byteAt_bytes_append]

theorem keyEntryAt_zero (e : KeyEntry) (m : List Byte) : keyEntryAt (a :: b :: c :: (e.bytes ++ m)) 0 = e := by
  obtain ⟨repeatable, repeatRelease, -⟩ := e.flags
  have first : keyEntryAt (a :: b :: c :: (e.bytes ++ m)) 0 =
      { code := e.code
        repeatable := ((if e.repeatable then 1 else 0 : Byte) ||| (if e.repeatRelease then 2 else 0)).getLsbD 0
        repeatRelease :=
          ((if e.repeatable then 1 else 0 : Byte) ||| (if e.repeatRelease then 2 else 0)).getLsbD 1 } := rfl
  rw [first, repeatable, repeatRelease]

theorem keyEntries_flatMap : ∀ l : List KeyEntry,
    (List.range l.length).map (keyEntryAt (a :: b :: c :: l.flatMap KeyEntry.bytes)) = l
  | [] => rfl
  | e :: l => by
    rw [List.length_cons, List.range_succ_eq_map, List.map_cons, List.map_map, List.flatMap_cons, keyEntryAt_zero]
    have rest : keyEntryAt (a :: b :: c :: (e.bytes ++ l.flatMap KeyEntry.bytes)) ∘ Nat.succ =
        keyEntryAt (a :: b :: c :: l.flatMap KeyEntry.bytes) := funext (keyEntryAt_succ a b c e _)
    rw [rest, keyEntries_flatMap l]

theorem masks_flatMap : ∀ (l : List KeyEntry) (i : Nat),
    maskHas 2 (byteAt (l.flatMap KeyEntry.bytes) (2 * i + 1)) = true
  | [], _ => rfl
  | e :: _, 0 => e.flags.2.2
  | e :: l, i + 1 => by
    rw [List.flatMap_cons, show 2 * (i + 1) + 1 = 2 * i + 1 + 2 by omega, byteAt_bytes_append]
    exact masks_flatMap l i

end

/-! ## SET_KEYS (R58) -/

theorem exec_setKeys (tag : Byte) (b : List Byte) (s : State) :
    exec (.setKeys tag b) s = .next (s.takeWith 0x08 tag b setKeysRule) := rfl

theorem setKeysRule_length (tag : Byte) {b : List Byte} (s : State)
    (h : natAt b 2 = 0 ∨ 64 < natAt b 2 ∨ b.length ≠ 3 + 2 * natAt b 2) :
    setKeysRule tag b s = refuse s .badArgument := if_pos h

section
variable (tag l f n : Byte) {b : List Byte} (s : State)
  (shape : ¬ (natAt (l :: f :: n :: b) 2 = 0 ∨ 64 < natAt (l :: f :: n :: b) 2 ∨
    (l :: f :: n :: b).length ≠ 3 + 2 * natAt (l :: f :: n :: b) 2))
include shape

theorem setKeysRule_badLane (h : 3 < l.toNat) : setKeysRule tag (l :: f :: n :: b) s = refuse s .badLane := by
  unfold setKeysRule
  rw [if_neg shape, byteAt_zero, laneOf_eq_none h]

variable {q : LaneId} (hl : laneOf l = some q)
include hl

theorem setKeysRule_badIndex (h : 128 < f.toNat + n.toNat) :
    setKeysRule tag (l :: f :: n :: b) s = refuse s .badIndex := by
  unfold setKeysRule
  rw [if_neg shape, byteAt_zero, hl]
  exact if_pos h

theorem setKeysRule_badMask (h : f.toNat + n.toNat ≤ 128)
    (bad : ((List.range n.toNat).any fun i => !maskHas 2 (byteAt (l :: f :: n :: b) (4 + 2 * i))) = true) :
    setKeysRule tag (l :: f :: n :: b) s = refuse s .badArgument := by
  unfold setKeysRule
  rw [if_neg shape, byteAt_zero, hl]
  exact (if_neg (Nat.not_lt.2 h)).trans (if_pos bad)

theorem setKeysRule_taken (h : f.toNat + n.toNat ≤ 128)
    (good : ((List.range n.toNat).any fun i => !maskHas 2 (byteAt (l :: f :: n :: b) (4 + 2 * i))) = false) :
    setKeysRule tag (l :: f :: n :: b) s =
      (s.withKeyboard q
          (Keyboard.writeEntries f.toNat ((List.range n.toNat).map (keyEntryAt (l :: f :: n :: b)))
            (s.keyboards.get q)),
        .reply .ok [laneByte q, f, n]) := by
  unfold setKeysRule
  rw [if_neg shape, byteAt_zero, hl]
  exact (if_neg (Nat.not_lt.2 h)).trans (if_neg (Bool.eq_false_iff.1 good))

end

theorem laneOf_eq_some {b : Byte} (h : b.toNat ≤ 3) : ∃ q, laneOf b = some q :=
  ⟨⟨b.toNat, Nat.lt_succ_of_le h⟩, dif_pos (Nat.lt_succ_of_le h)⟩

/-- Settles O31: the tests in order; what the entries written leave, by the lemmas on a run of entries. -/
theorem setKeys : Obligations.SetKeys := by
  refine ⟨fun tag b s ht hb => ?_, fun tag l f n b s ht => ⟨fun h => ?_, fun some few whole => ?_⟩,
    fun tag f l q k s ht hk one many within => ?_⟩
  · have short : natAt b 2 = 0 := by
      unfold natAt byteAt
      rw [List.getD_eq_default _ _ (by omega)]
      rfl
    exact (exec_of_rule exec_setKeys ht (setKeysRule_length tag s (Or.inl short))).trans (by rw [State.answer_refuse])
  · have shape : natAt (l :: f :: n :: b) 2 = 0 ∨ 64 < natAt (l :: f :: n :: b) 2 ∨
        (l :: f :: n :: b).length ≠ 3 + 2 * natAt (l :: f :: n :: b) 2 := by
      refine h.imp (fun zero => by rw [zero]; rfl) (Or.imp_right fun length same => length ?_)
      simp only [List.length_cons] at same
      have : b.length + 1 + 1 + 1 = 3 + 2 * n.toNat := same
      omega
    exact (exec_of_rule exec_setKeys ht (setKeysRule_length tag s shape)).trans (by rw [State.answer_refuse])
  · have shape : ¬ (natAt (l :: f :: n :: b) 2 = 0 ∨ 64 < natAt (l :: f :: n :: b) 2 ∨
        (l :: f :: n :: b).length ≠ 3 + 2 * natAt (l :: f :: n :: b) 2) := by
      have positive : n.toNat ≠ 0 := fun zero => some (BitVec.eq_of_toNat_eq zero)
      rintro (zero | more | length)
      · exact positive zero
      · exact Nat.not_lt.2 few more
      · refine length ?_
        show b.length + 1 + 1 + 1 = 3 + 2 * n.toNat
        omega
    refine ⟨fun lane => ?_, fun lane index => ?_, fun lane index ⟨i, hi, bad⟩ => ?_⟩
    · exact (exec_of_rule exec_setKeys ht (setKeysRule_badLane tag l f n s shape lane)).trans
        (by rw [State.answer_refuse])
    · obtain ⟨q, hq⟩ := laneOf_eq_some lane
      exact (exec_of_rule exec_setKeys ht (setKeysRule_badIndex tag l f n s shape hq index)).trans
        (by rw [State.answer_refuse])
    · obtain ⟨q, hq⟩ := laneOf_eq_some lane
      have mask : ((List.range n.toNat).any fun i => !maskHas 2 (byteAt (l :: f :: n :: b) (4 + 2 * i))) = true := by
        refine List.any_eq_true.2 ⟨i, List.mem_range.2 hi, ?_⟩
        rw [byteAt_flags, Bool.not_eq_true']
        exact decide_eq_false (by show ¬ (b.getD (2 * i + 1) 0).toNat < 2 ^ 2; omega)
      exact (exec_of_rule exec_setKeys ht (setKeysRule_badMask tag l f n s shape hq index mask)).trans
        (by rw [State.answer_refuse])
  · subst hk
    have count : (BitVec.ofNat 8 l.length).toNat = l.length := toNat_num1 (by omega)
    have shape : ¬ (natAt (laneByte q :: f :: BitVec.ofNat 8 l.length :: l.flatMap KeyEntry.bytes) 2 = 0 ∨
        64 < natAt (laneByte q :: f :: BitVec.ofNat 8 l.length :: l.flatMap KeyEntry.bytes) 2 ∨
        (laneByte q :: f :: BitVec.ofNat 8 l.length :: l.flatMap KeyEntry.bytes).length ≠
          3 + 2 * natAt (laneByte q :: f :: BitVec.ofNat 8 l.length :: l.flatMap KeyEntry.bytes) 2) := by
      have number : natAt (laneByte q :: f :: BitVec.ofNat 8 l.length :: l.flatMap KeyEntry.bytes) 2 = l.length := count
      rw [number]
      simp only [List.length_cons, KeyEntry.length_flatMap_bytes]
      omega
    have good : ((List.range (BitVec.ofNat 8 l.length).toNat).any fun i => !maskHas 2
        (byteAt (laneByte q :: f :: BitVec.ofNat 8 l.length :: l.flatMap KeyEntry.bytes) (4 + 2 * i))) = false := by
      refine List.any_eq_false.2 fun i _ => ?_
      rw [byteAt_flags, masks_flatMap]
      exact nofun
    have taken := setKeysRule_taken tag (laneByte q) f (BitVec.ofNat 8 l.length) s shape (laneOf_laneByte q)
      (by omega) good
    rw [count, keyEntries_flatMap] at taken
    obtain ⟨waiting, blocked⟩ := Keyboard.writeEntries_lists l f.toNat (s.keyboards.get q) within
    refine ⟨Keyboard.writeEntries f.toNat l (s.keyboards.get q), exec_of_rule exec_setKeys ht taken,
      Keyboard.writeEntries_sameButKeys l f.toNat _ within, fun stays hstays => ?_,
      fun p away => Keyboard.writeEntries_outside l f.toNat _ p within away,
      fun p e low he => Keyboard.writeEntries_inside l f.toNat _ p e within low he⟩
    obtain rfl : stays = (s.keyboards.get q).keepsAll f.toNat l := by
      funext p
      rw [Bool.eq_iff_iff, hstays, Keyboard.keepsAll_iff]
    exact ⟨waiting, blocked⟩

end Sys2Proof.Machine

/-!
PROOF. RESET_LANE (obligation O53). That what R182 lists is left as it was is shown update by update: the settings of the
blocks by the properties that events and settling keep, and the host values of the outputs by a chain of their own, since
the outputs themselves are written all along.
-/

namespace Sys2Proof.Machine

/-! ## What RESET_LANE leaves of the blocks (R182) -/

/-- The settings of the store and its queues are the same. -/
structure EventStore.SameSettings (st st' : EventStore) : Prop where
  laneLimits : st'.laneLimits = st.laneLimits
  sharedLimits : st'.sharedLimits = st.sharedLimits
  queues : ∀ r, (st'.queues.get r).reserve = (st.queues.get r).reserve ∧
    (st'.queues.get r).watermark = (st.queues.get r).watermark

theorem EventStore.SameSettings.withQueue {st st' : EventStore} (h : st.SameSettings st') (q : LaneId) {x : LaneQueue}
    (hx : x.reserve = (st'.queues.get q).reserve ∧ x.watermark = (st'.queues.get q).watermark) :
    st.SameSettings (st'.withQueue q x) where
  laneLimits := h.laneLimits
  sharedLimits := h.sharedLimits
  queues := fun r => by
    unfold EventStore.withQueue
    simp only [Lanes.get_set]
    split
    · rename_i here
      subst here
      exact ⟨hx.1.trans (h.queues r).1, hx.2.trans (h.queues r).2⟩
    · exact h.queues r

theorem LaneQueue.evict_settings (x : LaneQueue) : x.evict.reserve = x.reserve ∧ x.evict.watermark = x.watermark := by
  unfold LaneQueue.evict
  split <;> exact ⟨rfl, rfl⟩

theorem EventStore.SameSettings.offer {st st' : EventStore} (h : st.SameSettings st') (q : LaneId) (e : Event)
    (redirected : Bool) : st.SameSettings (st'.offer q e redirected).1 := by
  unfold EventStore.offer
  simp only
  split
  · exact h.withQueue q ⟨rfl, rfl⟩
  · exact h.withQueue q ⟨rfl, rfl⟩
  · exact h.withQueue q (LaneQueue.evict_settings _)
  · exact h.withQueue q ⟨rfl, rfl⟩

/-- The settings of the lanes' blocks are the same, and with them the key lock, the fault flags and the cooldowns. -/
structure SettingsKept (s t : State) : Prop where
  rules : t.table.rules = s.table.rules
  profiles : t.table.profiles = s.table.profiles
  patterns : t.patterns = s.patterns
  meters : t.meters = s.meters
  store : s.store.SameSettings t.store
  monitors : ∀ i, (t.monitor i).settings = (s.monitor i).settings
  keyboards : ∀ r, (t.keyboards.get r).settings = (s.keyboards.get r).settings ∧
    (t.keyboards.get r).keyTable = (s.keyboards.get r).keyTable ∧
    (t.keyboards.get r).keylock = (s.keyboards.get r).keylock
  modes : ∀ r, (t.modes.get r).saved = (s.modes.get r).saved ∧
    (t.modes.get r).attendantSet = (s.modes.get r).attendantSet
  checkers : ∀ r, (t.checkers.get r).checks = (s.checkers.get r).checks ∧
    (t.checkers.get r).holdTime = (s.checkers.get r).holdTime
  drawers : ∀ r, (t.drawers.get r).settings = (s.drawers.get r).settings ∧
    (t.drawers.get r).fault = (s.drawers.get r).fault ∧
    (t.drawers.get r).cooldownEnd = (s.drawers.get r).cooldownEnd
  ports : ∀ r p, (t.port r p).line = (s.port r p).line ∧ (t.port r p).idMap = (s.port r p).idMap

theorem SettingsKept.refl (s : State) : SettingsKept s s where
  rules := rfl
  profiles := rfl
  patterns := rfl
  meters := rfl
  store := ⟨rfl, rfl, fun _ => ⟨rfl, rfl⟩⟩
  monitors := fun _ => rfl
  keyboards := fun _ => ⟨rfl, rfl, rfl⟩
  modes := fun _ => ⟨rfl, rfl⟩
  checkers := fun _ => ⟨rfl, rfl⟩
  drawers := fun _ => ⟨rfl, rfl, rfl⟩
  ports := fun _ _ => ⟨rfl, rfl⟩

/-- A property of one lane's entry that the entry written has too. -/
theorem Lanes.forall_get_set {α : Type} {b : Lanes α} {q : LaneId} {x : α} {T : LaneId → α → Prop}
    (h : ∀ r, T r (b.get r)) (hx : T q x) (r : LaneId) : T r ((b.set q x).get r) := by
  rw [Lanes.get_set]
  split
  · rename_i here
    exact here ▸ hx
  · exact h r

section
variable {s t : State} (h : SettingsKept s t)
include h

theorem SettingsKept.withKeyboard (q : LaneId) {k : Keyboard} (hs : k.settings = (t.keyboards.get q).settings)
    (ht : k.keyTable = (t.keyboards.get q).keyTable) (hl : k.keylock = (t.keyboards.get q).keylock) :
    SettingsKept s (t.withKeyboard q k) :=
  { h with
    keyboards := Lanes.forall_get_set (T := fun r (k : Keyboard) => k.settings = (s.keyboards.get r).settings ∧
      k.keyTable = (s.keyboards.get r).keyTable ∧ k.keylock = (s.keyboards.get r).keylock) h.keyboards
      ⟨hs.trans (h.keyboards q).1, ht.trans (h.keyboards q).2.1, hl.trans (h.keyboards q).2.2⟩ }

theorem SettingsKept.withChecker (q : LaneId) {c : Checker} (hc : c.checks = (t.checkers.get q).checks)
    (ht : c.holdTime = (t.checkers.get q).holdTime) : SettingsKept s (t.withChecker q c) :=
  { h with
    checkers := Lanes.forall_get_set (T := fun r (c : Checker) => c.checks = (s.checkers.get r).checks ∧
      c.holdTime = (s.checkers.get r).holdTime) h.checkers
      ⟨hc.trans (h.checkers q).1, ht.trans (h.checkers q).2⟩ }

theorem SettingsKept.withDrawer (a : Arbiter) (q : LaneId) {d : Drawer} (hs : d.settings = (t.drawers.get q).settings)
    (hf : d.fault = (t.drawers.get q).fault) (hc : d.cooldownEnd = (t.drawers.get q).cooldownEnd) :
    SettingsKept s ({ t with arbiter := a }.withDrawer q d) :=
  { h with
    drawers := Lanes.forall_get_set (T := fun r (d : Drawer) => d.settings = (s.drawers.get r).settings ∧
      d.fault = (s.drawers.get r).fault ∧ d.cooldownEnd = (s.drawers.get r).cooldownEnd) h.drawers
      ⟨hs.trans (h.drawers q).1, hf.trans (h.drawers q).2.1, hc.trans (h.drawers q).2.2⟩ }

theorem SettingsKept.withMode (q : LaneId) {m : LaneMode} (hs : m.saved = (t.modes.get q).saved)
    (ha : m.attendantSet = (t.modes.get q).attendantSet) :
    SettingsKept s { t with modes := t.modes.set q m } :=
  { h with
    modes := Lanes.forall_get_set (T := fun r (m : LaneMode) => m.saved = (s.modes.get r).saved ∧
      m.attendantSet = (s.modes.get r).attendantSet) h.modes
      ⟨hs.trans (h.modes q).1, ha.trans (h.modes q).2⟩ }

theorem SettingsKept.withPort (q : LaneId) (p : PortId) {x : ScannerPort} (hl : x.line = (t.port q p).line)
    (hi : x.idMap = (t.port q p).idMap) : SettingsKept s (t.withPort q p x) :=
  { h with
    ports := fun r o => by
      rw [State.port_withPort]
      split
      · rename_i here
        rw [here.1, here.2]
        exact ⟨hl.trans (h.ports q p).1, hi.trans (h.ports q p).2⟩
      · exact h.ports r o }

theorem SettingsKept.withMonitor (i : MonitorId) {m : Monitor} (hm : m.settings = (t.monitor i).settings) :
    SettingsKept s (t.withMonitor i m) :=
  { h with
    monitors := fun j => by
      rw [State.monitor_withMonitor]
      split
      · rename_i here
        rw [here]
        exact hm.trans (h.monitors i)
      · exact h.monitors j }

theorem SettingsKept.withStore {st : EventStore} (hst : s.store.SameSettings st) :
    SettingsKept s { t with store := st } :=
  { h with store := hst }

end

theorem ClassTable.counted_settings (t : ClassTable) (c : Option Nat) :
    (t.counted c).rules = t.rules ∧ (t.counted c).profiles = t.profiles := by
  unfold ClassTable.counted
  split
  · split <;> exact ⟨rfl, rfl⟩
  · exact ⟨rfl, rfl⟩

/-- Events and settling keep the settings. -/
theorem SettingsKept.blocks (s : State) : KeptByBlocks (SettingsKept s) where
  push := fun _ _ _ h => { h with }
  ready := fun _ _ h => { h with }
  outputs := fun _ _ h => { h with }
  counted := fun t c h =>
    { h with
      rules := (t.table.counted_settings c).1.trans h.rules
      profiles := (t.table.counted_settings c).2.trans h.profiles }
  filtered := fun _ q h => h.withStore (h.store.withQueue q ⟨rfl, rfl⟩)
  offered := fun _ q e b h => h.withStore (h.store.offer q e b)
  waited := fun _ q _ h => h.withStore (h.store.withQueue q ⟨rfl, rfl⟩)
  free := fun _ _ h => { h with }
  inbox := fun _ q _ h => h.withChecker q rfl rfl
  emptied := fun _ q h => h.withChecker q rfl rfl
  muted := fun _ q h => h.withKeyboard q rfl rfl rfl
  abandoned := fun _ q _ _ _ h => h.withDrawer _ q rfl rfl rfl
  tookMatch := fun _ i _ _ _ h => h.withMonitor i (Monitor.takeMatch_settings _ _ _)
  conditions := fun _ _ h => { h with }

theorem ScannerPort.toHunt_settings (x : ScannerPort) (now : Time) (p : PortId) (r : LostReason) :
    (x.toHunt now p r).1.line = x.line ∧ (x.toHunt now p r).1.idMap = x.idMap := by
  unfold ScannerPort.toHunt
  split <;> exact ⟨rfl, rfl⟩

section
variable {s t : State} (h : SettingsKept s t)
include h

theorem SettingsKept.settle : SettingsKept s t.settle := State.settle_keeps (SettingsKept.blocks s) t h

theorem SettingsKept.produce (q : LaneId) (u : Time) (b : EventBody) : SettingsKept s (t.produce q u b) :=
  State.produce_keeps (SettingsKept.blocks s).toKeptByEvents t q u b h

theorem SettingsKept.grantOne : SettingsKept s t.grantOne := by
  unfold State.grantOne
  split
  · exact h.withDrawer _ _ rfl rfl rfl
  · exact h

theorem SettingsKept.withEnable (q : LaneId) (x : Enable) (v : Bool) : SettingsKept s (t.withEnable q x v) :=
  h.withMode q rfl rfl

theorem SettingsKept.handEnable (q : LaneId) (x : Enable × Bool) : SettingsKept s (State.handEnable q t x) := by
  unfold State.handEnable
  split
  · exact h.withKeyboard q rfl rfl rfl
  · exact State.keyboardDoes_keeps (SettingsKept.blocks s) _ _ _ (h.withKeyboard q rfl rfl rfl)
  · exact State.resolveInhibit_keeps (SettingsKept.blocks s).toKeptByEvents _ _ _ (h.withPort q _ rfl rfl)
  · rename_i p
    obtain ⟨line, idMap⟩ := (t.port q p).skip.toHunt_settings t.time p .disabled
    exact State.resolveInhibit_keeps (SettingsKept.blocks s).toKeptByEvents _ _ _
      (State.portDoes_keeps (SettingsKept.blocks s) _ _ _ _ (h.withPort q p line idMap))
  · exact h.grantOne.grantOne
  · exact h

theorem SettingsKept.setCurrent (q : LaneId) (e : EnableSet) : SettingsKept s (t.setCurrent q e) :=
  List.foldl_keeps (P := SettingsKept s) (f := State.switchEnable q)
    (fun _ x hu => ((hu.withEnable q x.1 x.2).handEnable q x).settle) _ _
    (State.inOrder_keeps (SettingsKept.blocks s) _ _ h)

theorem SettingsKept.resetLanePorts (q : LaneId) : SettingsKept s (t.resetLanePorts q) := by
  refine List.foldl_keeps (fun u p hu => ?_) _ _ (State.inOrder_keeps (SettingsKept.blocks s) _ _ h)
  refine (State.portDoes_keeps (SettingsKept.blocks s) _ _ _ _ ?_).settle
  have reset : (ScannerPort.laneReset u.time p (u.port q p)).1.line = (u.port q p).line ∧
      (ScannerPort.laneReset u.time p (u.port q p)).1.idMap = (u.port q p).idMap := by
    unfold ScannerPort.laneReset
    split
    · exact (u.port q p).skip.toHunt_settings u.time p .resync
    · exact ⟨rfl, rfl⟩
  exact hu.withPort q p reset.1 reset.2

theorem SettingsKept.resetLaneDrawer (q : LaneId) : SettingsKept s (t.resetLaneDrawer q) := by
  unfold State.resetLaneDrawer
  split
  · rename_i queued
    exact (State.abandonOpen_keeps (SettingsKept.blocks s) _ _ _ _ queued h).settle
  · exact h

theorem SettingsKept.resetLaneMode (q : LaneId) : SettingsKept s (t.resetLaneMode q) := by
  unfold State.resetLaneMode
  split
  · have cleared : SettingsKept s { t with modes := t.modes.set q { t.modes.get q with attendant := false } } :=
      h.withMode q rfl rfl
    have left := (cleared.produce q t.time (.attendantOff .laneReset)).settle
    exact left.setCurrent q (t.modes.get q).saved
  · exact h

theorem SettingsKept.resetLaneUnits (q : LaneId) : SettingsKept s (t.resetLaneUnits q) := by
  have emptied : SettingsKept s (t.withChecker q { t.checkers.get q with recent := [] }) := h.withChecker q rfl rfl
  have restarted : SettingsKept s ((t.withChecker q { t.checkers.get q with recent := [] }).withKeyboard q
      (t.keyboards.get q).restart) := emptied.withKeyboard q rfl rfl rfl
  exact restarted

theorem SettingsKept.resetLaneStart (q : LaneId) :
    SettingsKept s (((t.resetLaneQueue q).resetLanePatterns q).resetLaneUnits q) := by
  have flushed : SettingsKept s (t.withQueue q (t.store.queues.get q).flush) :=
    h.withStore (h.store.withQueue q ⟨rfl, rfl⟩)
  have ended := State.cancelWait_keeps (SettingsKept.blocks s).toKeptByEvents _ q causeLaneReset flushed
  have stopped : SettingsKept s ((t.resetLaneQueue q).resetLanePatterns q) := SettingsKept.settle { ended with }
  exact stopped.resetLaneUnits q

end

/-! ## The host values of the outputs (R182) -/

/-- The host values of a lane's outputs. -/
def LaneOutputs.hosts (u : LaneOutputs) : HostValue × HostValue × (PortId → Level) :=
  (u.lamp.host, u.tone.host, fun p => (u.inhibits.get p).host)

/-- The host values of every lane's outputs. -/
def State.hosts (s : State) (q : LaneId) : HostValue × HostValue × (PortId → Level) := (s.outputs.get q).hosts

theorem State.hosts_congr {s t : State} (h : t.outputs = s.outputs) : t.hosts = s.hosts := by
  unfold State.hosts
  rw [h]

theorem State.hosts_withOutputs {s : State} {q : LaneId} {u : LaneOutputs} (h : u.hosts = (s.outputs.get q).hosts) :
    (s.withOutputs q u).hosts = s.hosts := by
  funext r
  unfold State.hosts
  rw [State.withOutputs_outputs_get]
  split
  · rename_i here
    rw [here, h]
  · rfl

theorem LaneOutputs.hosts_withSignal (u : LaneOutputs) (o : SignalOut) {x : SignalOutput}
    (h : x.host = (u.signal o).host) : (u.withSignal o x).hosts = u.hosts := by
  unfold LaneOutputs.hosts
  cases o
  · exact congrArg (fun l => (l, u.tone.host, fun p => (u.inhibits.get p).host)) h
  · exact congrArg (fun l => (u.lamp.host, l, fun p => (u.inhibits.get p).host)) h

theorem State.hosts_updateSignal (s : State) (q : LaneId) (o : SignalOut) {f : SignalOutput → SignalOutput}
    (h : ∀ x, (f x).host = x.host) : (s.updateSignal q o f).hosts = s.hosts :=
  State.hosts_withOutputs (LaneOutputs.hosts_withSignal _ o (h _))

theorem State.hosts_resolveInhibit (s : State) (q : LaneId) (p : PortId) : (s.resolveInhibit q p).hosts = s.hosts := by
  refine State.hosts_withOutputs (congrArg (fun l => (_, _, l)) (funext fun o => ?_))
  simp only [Ports.get_set]
  split
  · rename_i here
    rw [here]
  · rfl

theorem State.hosts_resolveSignals (s : State) : s.resolveSignals.hosts = s.hosts :=
  List.foldl_keeps (P := fun t => t.hosts = s.hosts)
    (fun t q h => ((State.hosts_updateSignal _ q .tone fun _ => rfl).trans
      (State.hosts_updateSignal t q .lamp fun _ => rfl)).trans h) allLanes s rfl

theorem State.hosts_startSignal (s : State) (q : LaneId) (x : Option (SignalOut × Nat)) :
    (s.startSignal q x).hosts = s.hosts := by
  unfold State.startSignal
  split
  · exact s.hosts_updateSignal q _ fun _ => rfl
  · rfl

theorem State.hosts_offerEvent (s : State) (d : LaneId) (e : Event) (x : Option (SignalOut × Nat)) :
    (s.offerEvent d e x).hosts = s.hosts := by
  unfold State.offerEvent
  simp only
  split
  · rw [State.hosts_startSignal]
    refine State.hosts_congr ?_
    rw [State.markReady_outputs, State.testWait_outputs]
  · rfl

theorem State.hosts_produce (s : State) (q : LaneId) (t : Time) (b : EventBody) : (s.produce q t b).hosts = s.hosts := by
  unfold State.produce
  simp only
  split
  · rfl
  · exact State.hosts_offerEvent _ _ _ _
  · exact State.hosts_offerEvent _ _ _ _

theorem State.hosts_perform (s : State) (q : LaneId) (l : List LaneEffect) : (s.perform q l).hosts = s.hosts := by
  refine List.foldl_keeps (P := fun t => t.hosts = s.hosts) (fun t e h => ?_) l s rfl
  cases e with
  | produce u b => exact (t.hosts_produce q u b).trans h
  | handOn x => exact h
  | emptyRecent => exact h

theorem State.hosts_inOrder {α : Type} (s : State) (l : List α) : (s.inOrder l).2.hosts = s.hosts := by
  unfold State.inOrder
  split <;> rfl

theorem State.hosts_abandonOpen (s : State) (q : LaneId) (t : Time) (r : AbandonReason) :
    (s.abandonOpen q t r).hosts = s.hosts := State.hosts_perform _ _ _

theorem State.hosts_handEffect (s : State) (x : (LaneId × Effect) × Bool) : (s.handEffect x).hosts = s.hosts := by
  unfold State.handEffect
  split
  · split
    · exact State.hosts_perform _ _ _
    · rfl
  · rfl
  · split
    · exact s.hosts_abandonOpen _ _ _
    · rfl
  · rfl
  · exact s.hosts_resolveInhibit _ _
  · exact s.hosts_resolveInhibit _ _

theorem State.hosts_refreshEffects (s : State) : s.refreshEffects.hosts = s.hosts :=
  List.foldl_keeps (P := fun t => t.hosts = s.hosts) (fun t x h => (t.hosts_handEffect x).trans h) _ _
    ((State.hosts_inOrder _ _).trans (State.hosts_resolveSignals _))

theorem State.hosts_takeChange (s : State) (i : MonitorId) : (s.takeChange i).hosts = s.hosts := by
  unfold State.takeChange State.turnMonitor State.monitorEvent
  simp only
  split
  · rfl
  · rw [State.hosts_refreshEffects, State.hosts_produce]
    rfl
  · rw [State.hosts_produce, State.hosts_refreshEffects]
    rfl

theorem State.hosts_settleFor : ∀ (n : Nat) (due : List MonitorId) (s : State),
    (State.settleFor n due s).hosts = s.hosts
  | 0, _, _ => rfl
  | n + 1, due, s => by
    unfold State.settleFor
    simp only
    split
    · rfl
    · rw [State.hosts_settleFor n, State.hosts_takeChange, State.hosts_inOrder]

theorem State.hosts_settle (s : State) : s.settle.hosts = s.hosts := State.hosts_settleFor 16 s.stale s

theorem State.hosts_grantOne (s : State) : s.grantOne.hosts = s.hosts := by
  unfold State.grantOne
  split <;> rfl

theorem State.hosts_handEnable (q : LaneId) (s : State) (x : Enable × Bool) :
    (State.handEnable q s x).hosts = s.hosts := by
  unfold State.handEnable
  split
  · rfl
  · exact State.hosts_perform _ _ _
  · exact State.hosts_resolveInhibit _ _ _
  · exact (State.hosts_resolveInhibit _ _ _).trans (State.hosts_perform _ _ _)
  · exact (State.hosts_grantOne _).trans s.hosts_grantOne
  · rfl

theorem State.hosts_setCurrent (s : State) (q : LaneId) (e : EnableSet) : (s.setCurrent q e).hosts = s.hosts :=
  List.foldl_keeps (P := fun t => t.hosts = s.hosts) (f := State.switchEnable q)
    (fun t x h => ((State.hosts_settle _).trans (State.hosts_handEnable q (t.withEnable q x.1 x.2) x)).trans h) _ _
    (State.hosts_inOrder s _)

theorem State.hosts_resetLanePorts (s : State) (q : LaneId) : (s.resetLanePorts q).hosts = s.hosts :=
  List.foldl_keeps (P := fun t => t.hosts = s.hosts)
    (f := fun s p => (s.portDoes q p (ScannerPort.laneReset s.time p)).settle)
    (fun _ _ h => ((State.hosts_settle _).trans (State.hosts_perform _ _ _)).trans h) _ _ (State.hosts_inOrder s _)

theorem State.hosts_resetLaneDrawer (s : State) (q : LaneId) : (s.resetLaneDrawer q).hosts = s.hosts := by
  unfold State.resetLaneDrawer
  split
  · exact (State.hosts_settle _).trans (s.hosts_abandonOpen _ _ _)
  · rfl

theorem State.hosts_resetLaneMode (s : State) (q : LaneId) : (s.resetLaneMode q).hosts = s.hosts := by
  unfold State.resetLaneMode State.leaveAttendant
  split
  · exact (State.hosts_setCurrent _ _ _).trans ((State.hosts_settle _).trans (State.hosts_produce _ _ _ _))
  · rfl

theorem State.hosts_resetLaneStart (s : State) (q : LaneId) :
    (((s.resetLaneQueue q).resetLanePatterns q).resetLaneUnits q).hosts = s.hosts := by
  have flushed : (s.resetLaneQueue q).hosts = s.hosts := by
    refine State.hosts_congr ?_
    unfold State.resetLaneQueue State.cancelWait
    split <;> rfl
  calc (((s.resetLaneQueue q).resetLanePatterns q).resetLaneUnits q).hosts
      = ((s.resetLaneQueue q).resetLanePatterns q).hosts := rfl
    _ = (((s.resetLaneQueue q).updateSignal q .lamp SignalOutput.stop).updateSignal q .tone SignalOutput.stop).hosts :=
        State.hosts_settle _
    _ = ((s.resetLaneQueue q).updateSignal q .lamp SignalOutput.stop).hosts :=
        State.hosts_updateSignal _ q .tone fun _ => rfl
    _ = (s.resetLaneQueue q).hosts := State.hosts_updateSignal _ q .lamp fun _ => rfl
    _ = s.hosts := flushed

/-! ## The seven steps (R181) -/

/-- The state after steps 1 to 5. -/
def State.resetLaneFirst (s : State) (q : LaneId) : State :=
  (((s.resetLaneQueue q).resetLanePatterns q).resetLaneUnits q).resetLanePorts q

theorem exec_resetLane (tag : Byte) (b : List Byte) (s : State) :
    exec (.resetLane tag b) s = .next (s.takeWith 0x04 tag b resetLaneRule) := rfl

/-- What is left as it was by whatever RESET_LANE does to a state. -/
theorem resetLaneRule_kept (tag : Byte) (b : List Byte) (s : State) :
    SettingsKept s (resetLaneRule tag b s).1 ∧ (resetLaneRule tag b s).1.hosts = s.hosts := by
  unfold resetLaneRule laneRule
  split
  · exact ⟨SettingsKept.refl s, rfl⟩
  · split
    · exact ⟨SettingsKept.refl s, rfl⟩
    · rename_i q _
      have first := (SettingsKept.refl s).resetLaneStart q
      refine ⟨((first.resetLanePorts q).resetLaneDrawer q).resetLaneMode q, ?_⟩
      exact (State.hosts_resetLaneMode _ q).trans ((State.hosts_resetLaneDrawer _ q).trans
        ((State.hosts_resetLanePorts _ q).trans (s.hosts_resetLaneStart q)))

theorem State.answer_kept {s : State} {r : State × Answer} (tag kind : Byte) (h : SettingsKept s r.1)
    (hosts : r.1.hosts = s.hosts) :
    SettingsKept s (State.answer tag kind r) ∧ (State.answer tag kind r).hosts = s.hosts := by
  unfold State.answer
  split
  · exact ⟨{ h with }, hosts⟩
  · exact ⟨h, hosts⟩

theorem State.takeWith_resetLane_kept (tag : Byte) (b : List Byte) (s : State) :
    SettingsKept s (s.takeWith 0x04 tag b resetLaneRule) ∧ (s.takeWith 0x04 tag b resetLaneRule).hosts = s.hosts := by
  unfold State.takeWith
  split
  · exact State.answer_kept tag 0x04 (SettingsKept.refl s) rfl
  · obtain ⟨kept, hosts⟩ := resetLaneRule_kept tag b s
    exact State.answer_kept tag 0x04 kept hosts

/-- What holds all along: no time passes, and no mode changes until attendant mode ends. -/
def State.SameMoment (s t : State) : Prop := t.time = s.time ∧ t.modes = s.modes

theorem State.SameMoment.blocks (s : State) : KeptByBlocks s.SameMoment := by
  constructor
  case toKeptByEvents => constructor <;> (intros; assumption)
  all_goals intros; assumption

section
variable {s t : State} (h : s.SameMoment t)
include h

theorem State.SameMoment.settle : s.SameMoment t.settle := State.settle_keeps (State.SameMoment.blocks s) t h

theorem State.SameMoment.resetPort (q : LaneId) (p : PortId) (f : ScannerPort → ScannerPort × List LaneEffect) :
    s.SameMoment (t.portDoes q p f).settle :=
  State.SameMoment.settle (State.portDoes_keeps (State.SameMoment.blocks s) t q p f h)

theorem State.SameMoment.resetLanePorts (q : LaneId) : s.SameMoment (t.resetLanePorts q) :=
  List.foldl_keeps (P := s.SameMoment) (f := fun s p => (s.portDoes q p (ScannerPort.laneReset s.time p)).settle)
    (fun _ p hu => State.SameMoment.resetPort hu q p _) _ _ (State.inOrder_keeps (State.SameMoment.blocks s) _ _ h)

theorem State.SameMoment.resetLaneDrawer (q : LaneId) : s.SameMoment (t.resetLaneDrawer q) := by
  unfold State.resetLaneDrawer
  split
  · exact State.SameMoment.settle (State.abandonOpen_keeps (State.SameMoment.blocks s) _ _ _ _ ‹_› h)
  · exact h

end

theorem State.resetLaneStart_sameMoment (s : State) (q : LaneId) :
    s.SameMoment (((s.resetLaneQueue q).resetLanePatterns q).resetLaneUnits q) := by
  have flushed : s.SameMoment (s.withQueue q (s.store.queues.get q).flush) := ⟨rfl, rfl⟩
  have ended := State.cancelWait_keeps (State.SameMoment.blocks s).toKeptByEvents _ q causeLaneReset flushed
  have stopped : s.SameMoment (((s.resetLaneQueue q).updateSignal q .lamp SignalOutput.stop).updateSignal q .tone
      SignalOutput.stop) := ended
  exact stopped.settle

/-- Step 1: with no wait pending the queue is only flushed. -/
theorem State.resetLaneQueue_none {s : State} {q : LaneId} {x : LaneQueue} (hx : x = s.store.queues.get q)
    (h : x.wait = none) :
    s.resetLaneQueue q =
      s.withQueue q
        { x with
          events := []
          lost := 0
          wait := none
          counters := { x.counters with flushed := x.counters.flushed + BitVec.ofNat 32 x.events.length } } := by
  subst hx
  have flush : (s.store.queues.get q).flush =
      { s.store.queues.get q with
        events := []
        lost := 0
        wait := none
        counters :=
          { (s.store.queues.get q).counters with
            flushed := (s.store.queues.get q).counters.flushed +
              BitVec.ofNat 32 (s.store.queues.get q).events.length } } := by
    rw [LaneQueue.flush, h]
  have idle : ((s.withQueue q (s.store.queues.get q).flush).store.queues.get q).wait = none := by
    rw [State.withQueue_store, EventStore.withQueue, Lanes.get_set_self]
    exact h
  rw [State.resetLaneQueue, State.cancelWait_none _ idle, flush]

/-- Step 1: a pending wait is answered CANCELLED, with an occupancy of 0. -/
theorem State.resetLaneQueue_some {s : State} {q : LaneId} {x : LaneQueue} {w : Wait} (hx : x = s.store.queues.get q)
    (h : x.wait = some w) :
    s.resetLaneQueue q =
      (s.withQueue q
        { x with
          events := []
          lost := 0
          wait := none
          counters := { x.counters with flushed := x.counters.flushed + BitVec.ofNat 32 x.events.length } }).push
        { tag := w.tag, kind := 0x80, body := [13, 0x16, laneByte q] ++ num4 w.timeout ++ [0, 0, 0, 0, 1],
          origin := .deferred } := by
  subst hx
  have pending : ((s.withQueue q (s.store.queues.get q).flush).store.queues.get q).wait = some w := by
    rw [State.withQueue_store, EventStore.withQueue, Lanes.get_set_self]
    exact h
  have empty : (s.withQueue q (s.store.queues.get q).flush).store.occ q = 0 := by
    rw [State.withQueue_store, EventStore.occ_withQueue, if_pos rfl]
    rfl
  have cleared : (s.withQueue q (s.store.queues.get q).flush).store.setWait q none =
      s.store.withQueue q { (s.store.queues.get q).flush with wait := none } := by
    rw [State.withQueue_store, EventStore.setWait, EventStore.withQueue, EventStore.withQueue, Lanes.get_set_self]
    simp only [EventStore.withQueue, Lanes.set_set]
  rw [State.resetLaneQueue, State.cancelWait_some _ pending, State.completeWait, empty, cleared]
  rfl

theorem ScannerPort.laneReset_eq (now : Time) (p : PortId) :
    ScannerPort.laneReset now p = fun y =>
      if y.receiverOn then ScannerPort.toHunt now p .resync { y with framing := .skipping, bytes := [] }
      else (y, []) := rfl

/-- The ports are reset one after another, all at the moment of the request. -/
theorem State.foldl_resetPort (q : LaneId) (now : Time) : ∀ (l : List PortId) (v : State), v.time = now →
    l.foldl (fun s p => (s.portDoes q p (ScannerPort.laneReset s.time p)).settle) v =
      l.foldl
        (fun u p =>
          (u.portDoes q p fun y =>
            if y.receiverOn then ScannerPort.toHunt now p .resync { y with framing := .skipping, bytes := [] }
            else (y, [])).settle) v
  | [], _, _ => rfl
  | p :: l, v, h => by
    rw [List.foldl_cons, List.foldl_cons, h, ScannerPort.laneReset_eq]
    refine State.foldl_resetPort q now l _ ?_
    exact (State.SameMoment.resetPort (s := v) ⟨rfl, rfl⟩ q p _).1.trans h

theorem perm_ports {l : List PortId} (h : l.Perm [.a, .b]) : l = [.a, .b] ∨ l = [.b, .a] := by
  have length := h.length_eq
  match l, length with
  | [x, y], _ =>
    cases x <;> cases y
    · exact absurd (h.mem_iff (a := .b)) (by simp)
    · exact Or.inl rfl
    · exact Or.inr rfl
    · exact absurd (h.mem_iff (a := .a)) (by simp)

theorem exec_resetLane_lane {tag : Byte} (ht : tag ≠ 0) (q : LaneId) (s : State) :
    exec (.resetLane tag [laneByte q]) s =
      .next ((((s.resetLaneFirst q).resetLaneDrawer q).resetLaneMode q).replied tag 0x04 .ok
        [laneByte q, flagByte (((s.resetLaneFirst q).resetLaneDrawer q).modes.get q).attendant,
          flagByte ((s.resetLaneFirst q).drawers.get q).isQueued,
          ((((s.resetLaneFirst q).resetLaneDrawer q).resetLaneMode q).modes.get q).current.mask]) :=
  exec_lane_of_laneRule exec_resetLane (b := []) s ht rfl

/-- Settles O53: the steps in order, step 5 by the order chosen for it; what is left, by what each step keeps. -/
theorem resetLane : Obligations.ResetLane := by
  refine ⟨wrongLengthRefused_of_laneRule exec_resetLane, badLaneRefused_of_laneRule exec_resetLane,
    fun tag q x s s1 s2 s3 s4 ht hx hs1 hs2 hs3 hs4 => ?_, fun tag b s t run => ?_⟩
  · have queue : s.resetLaneQueue q = s2 := by
      cases pending : x.wait with
      | none =>
        rw [pending] at hs2
        rw [hs2, hs1, State.resetLaneQueue_none hx pending]
      | some w =>
        rw [pending] at hs2
        rw [hs2, hs1, State.resetLaneQueue_some hx pending]
    have units : ((s.resetLaneQueue q).resetLanePatterns q).resetLaneUnits q = s4 := by
      rw [queue, hs4, hs3]
      rfl
    have start := s.resetLaneStart_sameMoment q
    have first : s.resetLaneFirst q = s4.resetLanePorts q := by rw [State.resetLaneFirst, units]
    rw [units] at start
    have ports : s.SameMoment (s.resetLaneFirst q) := first ▸ start.resetLanePorts q
    have drawer : s.SameMoment ((s.resetLaneFirst q).resetLaneDrawer q) := ports.resetLaneDrawer q
    refine ⟨(s4.inOrder [.a, .b]).1, s.resetLaneFirst q, (s.resetLaneFirst q).resetLaneDrawer q,
      ((s.resetLaneFirst q).resetLaneDrawer q).resetLaneMode q, perm_ports (s4.perm_inOrder _), ?_,
      fun queued => ?_, fun idle => ?_, fun on => ?_, fun off => ?_, ?_⟩
    · rw [first]
      exact State.foldl_resetPort q s.time _ _ start.1
    · rw [State.resetLaneDrawer, if_pos ((Drawer.isQueued_iff _).2 queued)]
      exact congrArg (fun now => ((s.resetLaneFirst q).abandonOpen q now .laneReset).settle) ports.1
    · rw [State.resetLaneDrawer, if_neg fun queued => (Drawer.isQueued_iff _).1 queued |>.elim idle]
    · rw [State.resetLaneMode, if_pos (by rw [drawer.2, on]), State.leaveAttendant, drawer.1, drawer.2]
    · rw [State.resetLaneMode, if_neg (by rw [drawer.2, off]; exact Bool.false_ne_true)]
    · rw [exec_resetLane_lane ht, drawer.2]
  · obtain ⟨kept, hosts⟩ := s.takeWith_resetLane_kept tag b
    obtain rfl : s.takeWith 0x04 tag b resetLaneRule = t :=
      Host.Outcome.next.inj ((exec_resetLane tag b s).symm.trans run)
    refine ⟨kept.rules, kept.profiles, kept.patterns, kept.meters, kept.store.laneLimits, kept.store.sharedLimits,
      kept.monitors, fun r => ?_⟩
    obtain ⟨reserve, watermark⟩ := kept.store.queues r
    obtain ⟨keySettings, keyTable, keylock⟩ := kept.keyboards r
    obtain ⟨saved, attendantSet⟩ := kept.modes r
    obtain ⟨checks, holdTime⟩ := kept.checkers r
    obtain ⟨drawerSettings, fault, cooldown⟩ := kept.drawers r
    obtain ⟨lamp, others⟩ := Prod.mk.inj (congrFun hosts r)
    obtain ⟨tone, inhibits⟩ := Prod.mk.inj others
    exact ⟨reserve, watermark, keySettings, keyTable, keylock, saved, attendantSet, checks, holdTime, drawerSettings,
      fault, cooldown, lamp, tone, fun p => ⟨(kept.ports r p).1, (kept.ports r p).2, congrFun inhibits p⟩⟩

end Sys2Proof.Machine

/-!
PROOF. The Scanner Ports: how frames act on the alignment (obligation O34), what sends a port to HUNT and the error windows
(O35), and what a byte does (O33).
-/

namespace Sys2Proof.Machine

/-! ## A good frame (R86, R87, R89, R90) -/

section
variable {x : ScannerPort} (p : PortId) (f : GoodFrame)

theorem ScannerPort.goodFrame_first (ha : x.alignment = .hunt) (hl : 2 ≤ x.line.lockCount) :
    x.goodFrame p f =
      ({ x with
          counters := { x.counters with goodFrames := x.counters.goodFrames + 1 }
          alignment := .candidate
          candidateCount := 1
          hold := [f] }, []) := by
  unfold ScannerPort.goodFrame
  simp only [ha]
  exact if_neg (by omega)

theorem ScannerPort.goodFrame_held (ha : x.alignment = .candidate) (hl : x.candidateCount + 1 < x.line.lockCount) :
    x.goodFrame p f =
      ({ x with
          counters := { x.counters with goodFrames := x.counters.goodFrames + 1 }
          candidateCount := x.candidateCount + 1
          hold := x.hold ++ [f] }, []) := by
  unfold ScannerPort.goodFrame
  simp only [ha]
  exact if_neg (by omega)

theorem ScannerPort.goodFrame_locks
    (h : (x.alignment = .hunt ∧ x.line.lockCount ≤ 1) ∨
      (x.alignment = .candidate ∧ x.line.lockCount ≤ x.candidateCount + 1)) :
    x.goodFrame p f =
      { x with counters := { x.counters with goodFrames := x.counters.goodFrames + 1 } }.enterLocked p f := by
  unfold ScannerPort.goodFrame
  rcases h with ⟨ha, hl⟩ | ⟨ha, hl⟩
  · simp only [ha]
    exact if_pos hl
  · simp only [ha]
    exact if_pos hl

theorem ScannerPort.goodFrame_locked (ha : x.alignment = .locked) :
    x.goodFrame p f =
      ({ x with
          counters := { x.counters with goodFrames := x.counters.goodFrames + 1 }
          consecutiveBad := 0 }, [.handOn { port := p, frame := f }]) := by
  unfold ScannerPort.goodFrame
  simp only [ha]

end

/-- Symbols handed on join the youngest end, in their order (R89, R106). -/
theorem State.perform_handOn (q : LaneId) : ∀ (l : List Symbol) (s : State),
    ((s.perform q (l.map .handOn)).checkers.get q).inbox = (s.checkers.get q).inbox ++ l
  | [], s => (List.append_nil _).symm
  | x :: l, s => by
    have first : s.perform q ((x :: l).map .handOn) =
        (s.withChecker q { s.checkers.get q with inbox := (s.checkers.get q).inbox ++ [x] }).perform q
          (l.map .handOn) := rfl
    rw [first, State.perform_handOn q l, State.withChecker_checkers, Lanes.get_set_self, List.append_assoc]
    rfl

/-! ## A bad frame (R86, R88, R90, R91, R93) -/

theorem PortCounters.addCause_eq (c : PortCounters) (cause : BadCause) :
    c.addCause cause =
      match cause with
      | .wrongPrefix => { c with badPrefix := c.badPrefix + 1 }
      | .length => { c with badLength := c.badLength + 1 }
      | .charset => { c with badCharset := c.badCharset + 1 }
      | .lrc => { c with badLrc := c.badLrc + 1 }
      | .byteError => { c with byteError := c.byteError + 1 }
      | .gap => { c with gap := c.gap + 1 }
      | .overlength => { c with overlength := c.overlength + 1 } := by
  cases cause <;> rfl

theorem ScannerPort.countItem_excess {x : ScannerPort} (now : Time) (p : PortId) (h : x.excessNow = true) :
    x.countItem now p =
      ({ x with
          windowCount := x.windowCount + 1
          excessReported := true
          counters := { x.counters with excessEvents := x.counters.excessEvents + 1 } },
        [.produce now (.scannerExcess p)]) := if_pos h

theorem ScannerPort.countItem_quiet {x : ScannerPort} (now : Time) (p : PortId) (h : x.excessNow = false) :
    x.countItem now p = ({ x with windowCount := x.windowCount + 1 }, []) := if_neg (Bool.eq_false_iff.1 h)

section
variable {x : ScannerPort} (now : Time) (p : PortId) (cause : BadCause) {c : PortCounters}
  (hc : x.counters.addCause cause = c)
include hc

theorem ScannerPort.badFrame_hunt (ha : x.alignment = .hunt) :
    x.badFrame now p cause = ({ x with counters := c }, []) := by
  unfold ScannerPort.badFrame
  simp only [ha, hc]

theorem ScannerPort.badFrame_candidate (ha : x.alignment = .candidate) :
    x.badFrame now p cause = ({ x with counters := c }.leaveCandidate, []) := by
  unfold ScannerPort.badFrame
  simp only [ha, hc]

/-- A bad frame in LOCKED, by what the count of the item gives. -/
theorem ScannerPort.badFrame_locked (ha : x.alignment = .locked) {r : ScannerPort × List LaneEffect}
    (hr : { x with counters := c, consecutiveBad := x.consecutiveBad + 1 }.countItem now p = r) :
    x.badFrame now p cause =
      if x.line.lossCount ≤ x.consecutiveBad + 1 then
        ((r.1.leaveLocked now p .misframes).1, r.2 ++ (r.1.leaveLocked now p .misframes).2)
      else if x.excessNow && x.line.rehunt then
        ((r.1.leaveLocked now p .excess).1, r.2 ++ (r.1.leaveLocked now p .excess).2)
      else r := by
  subst hr
  unfold ScannerPort.badFrame
  simp only [ha, hc]

end

/-- Settles O34: a good and a bad frame by the alignment and the counts they meet. -/
theorem frameAlignment : Obligations.FrameAlignment := by
  refine ⟨fun p f x c hc => ⟨fun ha hl => ?_, fun ha hl => ?_, fun h => ?_, fun ha => ?_⟩,
    ⟨fun q x s => rfl, fun q l s => State.perform_handOn q l s⟩, fun now p cause x c hc => ?_⟩
  · rw [hc, ScannerPort.goodFrame_first p f ha hl]
  · rw [hc, ScannerPort.goodFrame_held p f ha hl]
  · rw [hc, ScannerPort.goodFrame_locks p f h]
    rfl
  · rw [hc, ScannerPort.goodFrame_locked p f ha]
  · have counted : x.counters.addCause cause = c := (PortCounters.addCause_eq _ _).trans hc.symm
    refine ⟨fun ha => ScannerPort.badFrame_hunt now p cause counted ha,
      fun ha => ScannerPort.badFrame_candidate now p cause counted ha, fun ha excess he => ?_⟩
    have now_excess : x.excessNow = excess := he.symm
    cases excess with
    | true =>
      have item := ScannerPort.badFrame_locked now p cause counted ha
        (ScannerPort.countItem_excess (x := { x with counters := c, consecutiveBad := x.consecutiveBad + 1 }) now p
          now_excess)
      rw [item]
      refine ⟨fun lost => ?_, fun stays _ rehunt => ?_, fun stays _ rehunt => ?_, fun _ no => absurd no (by decide)⟩
      · rw [if_pos lost, Bool.or_true]
        rfl
      · rw [if_neg (by omega), now_excess, rehunt]
        rfl
      · rw [if_neg (by omega), now_excess, rehunt]
        rfl
    | false =>
      have item := ScannerPort.badFrame_locked now p cause counted ha
        (ScannerPort.countItem_quiet (x := { x with counters := c, consecutiveBad := x.consecutiveBad + 1 }) now p
          now_excess)
      rw [item]
      refine ⟨fun lost => ?_, fun _ no => absurd no (by decide), fun _ no => absurd no (by decide), fun stays _ => ?_⟩
      · rw [if_pos lost, Bool.or_false]
        rfl
      · rw [if_neg (by omega), now_excess]
        rfl

/-! ## Inputs of a port -/

section
variable {s : State} {q : LaneId} {p : PortId} {f : ScannerPort → ScannerPort × List LaneEffect}

@[simp] theorem State.withPort_self (s : State) (q : LaneId) (p : PortId) : s.withPort q p (s.port q p) = s := by
  unfold State.withPort State.port
  rw [Ports.set_get_self, Lanes.set_get_self]

theorem State.portDoes_eq {r : ScannerPort × List LaneEffect} (h : f (s.port q p) = r) :
    s.portDoes q p f = (s.withPort q p r.1).perform q r.2 := by
  subst h
  rfl

theorem State.portDoes_silent {x : ScannerPort} (h : f (s.port q p) = (x, [])) : s.portDoes q p f = s.withPort q p x :=
  State.portDoes_eq h

end

/-! ## To HUNT (R88, R91) -/

section
variable {x : ScannerPort} (now : Time) (p : PortId) (reason : LostReason)

theorem ScannerPort.toHunt_hunt (ha : x.alignment = .hunt) : x.toHunt now p reason = (x, []) := by
  unfold ScannerPort.toHunt
  rw [ha]

theorem ScannerPort.toHunt_candidate (ha : x.alignment = .candidate) :
    x.toHunt now p reason = (x.leaveCandidate, []) := by
  unfold ScannerPort.toHunt
  rw [ha]

theorem ScannerPort.toHunt_locked (ha : x.alignment = .locked) :
    x.toHunt now p reason = x.leaveLocked now p reason := by
  unfold ScannerPort.toHunt
  rw [ha]

end

/-! ## Breaks, gaps and windows (R80, R83, R92) -/

theorem ScannerPort.inFrame_iff (x : ScannerPort) :
    x.inFrame = true ↔ x.receiverOn = true ∧ x.framing = .aligned ∧ x.bytes ≠ [] := by
  simp only [ScannerPort.inFrame, Bool.and_eq_true, beq_iff_eq, Bool.not_eq_true', List.isEmpty_eq_false_iff, and_assoc]

theorem ScannerPort.gapExpired_iff (x : ScannerPort) (now : Time) :
    x.gapExpired now = true ↔
      x.receiverOn = true ∧ x.framing = .aligned ∧ x.bytes ≠ [] ∧ x.line.gapLimit < elapsed now x.lastByte := by
  rw [ScannerPort.gapExpired, Bool.and_eq_true, ScannerPort.inFrame_iff, decide_eq_true_eq, and_assoc, and_assoc]

theorem ScannerPort.gapOverdue_iff (x : ScannerPort) (now : Time) :
    x.gapOverdue now = true ↔
      x.receiverOn = true ∧ x.framing = .aligned ∧ x.bytes ≠ [] ∧ x.line.gapLimit + 1 < elapsed now x.lastByte := by
  rw [ScannerPort.gapOverdue, Bool.and_eq_true, ScannerPort.inFrame_iff, decide_eq_true_eq, and_assoc, and_assoc]

theorem exec_scannerBreak (q : LaneId) (p : PortId) (s : State) :
    exec (.scannerBreak q p) s = .next (s.portDoes q p (ScannerPort.break s.time p)).settle := rfl

theorem exec_scannerGapExpiry (q : LaneId) (p : PortId) (s : State) :
    exec (.scannerGapExpiry q p) s = .next (s.portDoes q p (ScannerPort.gapExpiry s.time p)).settle := rfl

theorem exec_resyncScanner (tag : Byte) (b : List Byte) (s : State) :
    exec (.resyncScanner tag b) s = .next (s.takeWith 0x0E tag b resyncScannerRule) := rfl

theorem exec_errorWindowBoundary (q : LaneId) (p : PortId) (s : State) :
    exec (.errorWindowBoundary q p) s = .next (s.withPort q p ((s.port q p).windowBoundary s.time)) := rfl

theorem ScannerPort.windowBoundary_due {x : ScannerPort} {w : ErrorWindow} {now e : Time} (hw : x.window = some w)
    (he : e = w.start + BitVec.ofNat 32 (w.seconds * 1000)) (due : reached now e = true) :
    x.windowBoundary now =
      { x with
        window := some { start := e, seconds := x.line.windowSeconds }
        windowCount := 0
        excessReported := false } := by
  subst he
  unfold ScannerPort.windowBoundary
  rw [hw]
  exact if_pos due

theorem ScannerPort.windowBoundary_early {x : ScannerPort} {now : Time}
    (h : ∀ w, x.window = some w → reached now (w.start + BitVec.ofNat 32 (w.seconds * 1000)) = false) :
    x.windowBoundary now = x := by
  unfold ScannerPort.windowBoundary
  split
  · rename_i w hw
    exact if_neg (Bool.eq_false_iff.1 (h w hw))
  · rfl

/-- Settles O35: each event of a port by whether it applies. -/
theorem portEvents : Obligations.PortEvents := by
  refine ⟨⟨fun now p reason x => ⟨ScannerPort.toHunt_hunt now p reason, ScannerPort.toHunt_candidate now p reason,
        ScannerPort.toHunt_locked now p reason⟩,
      fun q p x s hx => ⟨fun on r hr => ?_, fun off => ?_, fun on aligned some expired r hr => ?_, fun h => ?_⟩,
      wrongLengthRefused_of_portRule exec_resyncScanner, badLaneRefused_of_portRule exec_resyncScanner,
      badPortRefused_of_portRule exec_resyncScanner, fun tag q p x s ht hx => ⟨fun off => ?_, fun on r hr => ?_⟩⟩,
    fun q p x w e s hx hw he due => ?_, fun q p s early => ?_⟩
  · subst hx hr
    rw [exec_scannerBreak, State.portDoes_eq (if_pos on)]
    rfl
  · subst hx
    rw [exec_scannerBreak, State.portDoes_silent (if_neg (Bool.eq_false_iff.1 off)), State.withPort_self]
  · subst hx hr
    rw [exec_scannerGapExpiry,
      State.portDoes_eq (if_pos ((ScannerPort.gapExpired_iff _ _).2 ⟨on, aligned, some, expired⟩))]
    rfl
  · subst hx
    have waits : ¬ (s.port q p).gapExpired s.time = true := by
      rw [ScannerPort.gapExpired_iff]
      rintro ⟨on, aligned, some, expired⟩
      rcases h with off | skipping | none | early
      · exact absurd (on.symm.trans off) (by decide)
      · exact absurd (aligned.symm.trans skipping) (by decide)
      · exact some none
      · exact Nat.not_lt.2 early expired
    rw [exec_scannerGapExpiry, State.portDoes_silent (if_neg waits), State.withPort_self]
  · refine (exec_port_of_portRule exec_resyncScanner (b := []) s ht rfl).trans ?_
    rw [if_neg (Bool.eq_false_iff.1 off), State.answer_refuse]
  · subst hx hr
    refine (exec_port_of_portRule exec_resyncScanner (b := []) s ht rfl).trans ?_
    rw [if_pos on]
    rfl
  · subst hx
    rw [exec_errorWindowBoundary, ScannerPort.windowBoundary_due hw he due]
  · rw [exec_errorWindowBoundary, ScannerPort.windowBoundary_early early, State.withPort_self]

/-! ## A byte (R79, R82, R84, R85) -/

theorem exec_scannerByte (q : LaneId) (p : PortId) (v : Byte) (bit stop : Bool) (s : State) :
    exec (.scannerByte q p v bit stop) s =
      .next (s.portDoes q p (ScannerPort.takeByte s.time p (s.inhibited q p)
        { value := v, error := byteInError (s.port q p).line.format.parity v bit stop })).settle := rfl

section
variable {x : ScannerPort} (now : Time) (p : PortId) (i : Bool) (b : RxByte)

theorem ScannerPort.takeByte_off (off : x.receiverOn = false) : x.takeByte now p i b = (x, []) := by
  unfold ScannerPort.takeByte
  rw [off]
  rfl

theorem ScannerPort.takeByte_skipping (on : x.receiverOn = true) (skipping : x.framing = .skipping) :
    x.takeByte now p i b = (x.skipByte b, []) := by
  unfold ScannerPort.takeByte
  rw [on]
  exact if_pos skipping

theorem ScannerPort.takeByte_overdue (on : x.receiverOn = true) (aligned : x.framing = .aligned) (some : x.bytes ≠ [])
    (overdue : x.line.gapLimit + 1 < elapsed now x.lastByte) :
    x.takeByte now p i b = (((x.judgeGap now p).1.skipByte b), (x.judgeGap now p).2) := by
  unfold ScannerPort.takeByte
  rw [on, if_neg (by decide), if_neg (by rw [aligned]; exact nofun),
    if_pos ((x.gapOverdue_iff now).2 ⟨on, aligned, some, overdue⟩)]

theorem ScannerPort.takeByte_framed (on : x.receiverOn = true) (aligned : x.framing = .aligned)
    (intime : x.bytes = [] ∨ elapsed now x.lastByte ≤ x.line.gapLimit + 1) :
    x.takeByte now p i b = x.frameByte now p i b := by
  have waits : ¬ x.gapOverdue now = true := by
    rw [x.gapOverdue_iff now]
    rintro ⟨-, -, some, overdue⟩
    exact intime.elim some fun early => Nat.not_lt.2 early overdue
  unfold ScannerPort.takeByte
  rw [on, if_neg (by decide), if_neg (by rw [aligned]; exact nofun), if_neg waits]

end

section
variable {x : ScannerPort} (now : Time) (p : PortId) (i : Bool) (lo : Nat)

theorem ScannerPort.endFrame_empty : x.endFrame now p i lo [] = (x, []) := rfl

variable {body : List RxByte} (some : body ≠ [])
include some

theorem ScannerPort.endFrame_bad {cause : BadCause} (h : x.line.format.causeOf lo body = .some cause) :
    x.endFrame now p i lo body = x.badFrame now p cause := by
  unfold ScannerPort.endFrame
  rw [if_neg (by simpa using some), h]

theorem ScannerPort.endFrame_good (h : x.line.format.causeOf lo body = none) :
    x.endFrame now p i lo body = x.goodFrame p (x.line.format.frameOf now i body) := by
  unfold ScannerPort.endFrame
  rw [if_neg (by simpa using some), h]

end

/-- The lengths noted with a byte, as the obligation writes them. -/
theorem ScannerPort.noted_eq {x : ScannerPort} {lo hi : Nat} (now : Time)
    (hlo : lo = if x.bytes = [] then x.line.minData else x.frameMin)
    (hhi : hi = if x.bytes = [] then x.line.maxData else x.frameMax) :
    x.minHeld = lo ∧ x.maxHeld = hi ∧ x.noted now = { x with frameMin := lo, frameMax := hi, lastByte := now } := by
  have low : x.minHeld = lo := by
    rw [hlo, ScannerPort.minHeld]
    simp only [List.isEmpty_iff]
  have high : x.maxHeld = hi := by
    rw [hhi, ScannerPort.maxHeld]
    simp only [List.isEmpty_iff]
  refine ⟨low, high, ?_⟩
  rw [ScannerPort.noted, low, high]

/-- Settles O33: a byte by the receiver, the framing position and, in a frame, the limit and the terminator. -/
theorem scannerByte : Obligations.ScannerByte := by
  intro q p v bit stop x b lo hi s hx hb hlo hhi
  subst hx
  have run : exec (.scannerByte q p v bit stop) s =
      .next (s.portDoes q p (ScannerPort.takeByte s.time p (s.inhibited q p) b)).settle := by
    rw [hb, exec_scannerByte]
  obtain ⟨low, high, noted⟩ := ScannerPort.noted_eq s.time hlo hhi
  have length : ((s.port q p).bytes ++ [b]).length = (s.port q p).bytes.length + 1 := by simp
  rw [run]
  refine ⟨fun off => ?_, fun on skipping => ?_, fun on aligned some overdue r hr => ?_,
    fun on aligned intime => ?_⟩
  · rw [State.portDoes_silent (ScannerPort.takeByte_off s.time p _ b off), State.withPort_self]
  · rw [State.portDoes_silent (ScannerPort.takeByte_skipping s.time p _ b on skipping)]
    rfl
  · subst hr
    rw [State.portDoes_eq (ScannerPort.takeByte_overdue s.time p _ b on aligned some overdue)]
    rfl
  · have framed := ScannerPort.takeByte_framed s.time p (s.inhibited q p) b on aligned intime
    rw [ScannerPort.frameByte_eq, low, high, noted, length] at framed
    refine ⟨fun above r hr => ?_, fun within more => ?_, fun within ends y body hy hbody => ?_⟩
    · subst hr
      rw [if_pos above] at framed
      rw [State.portDoes_eq framed]
    · rw [if_neg (Nat.not_lt.2 within), if_neg (Bool.eq_false_iff.1 more)] at framed
      rw [State.portDoes_silent framed]
    · rw [if_neg (Nat.not_lt.2 within), if_pos ends, ← hbody] at framed
      subst hy
      refine ⟨fun empty => ?_, fun cause r some bad hr => ?_, fun r some good hr => ?_⟩
      · rw [empty, ScannerPort.endFrame_empty] at framed
        rw [State.portDoes_silent framed]
      · subst hr
        rw [State.portDoes_eq (framed.trans (ScannerPort.endFrame_bad s.time p _ lo some bad))]
      · subst hr
        rw [State.portDoes_eq (framed.trans (ScannerPort.endFrame_good s.time p _ lo some good))]

end Sys2Proof.Machine

/-!
PROOF. How a Scanner Port reads its line (obligation O32): a byte in error, a terminator, the length limit, and the
judgement of a body.
-/

namespace Sys2Proof.Machine

/-! ## A byte in error (R79) -/

theorem foldl_bne (f : Nat → Bool) : ∀ (l : List Nat) (a : Bool),
    l.foldl (fun acc i => acc != f i) a = (a != decide (l.countP f % 2 = 1))
  | [], a => by simp
  | i :: l, a => by
    rw [List.foldl_cons, foldl_bne f l, List.countP_cons]
    have parity : l.countP f % 2 = 0 ∨ l.countP f % 2 = 1 := Nat.mod_two_eq_zero_or_one _
    rcases parity with even | odd
    · have next : (l.countP f + 1) % 2 = 1 := by omega
      cases f i <;> simp [even, next]
    · have next : (l.countP f + 1) % 2 = 0 := by omega
      cases f i <;> simp [odd, next]

theorem oddOnes_eq (v : Byte) : oddOnes v = decide ((List.range 8).countP (fun i => v.getLsbD i) % 2 = 1) :=
  (foldl_bne (fun i => v.getLsbD i) [0, 1, 2, 3, 4, 5, 6, 7] false).trans (Bool.false_bne _)

/-- The ones of a byte and its parity bit together are odd in number. -/
theorem oddOnes_bne (v : Byte) (bit : Bool) :
    (oddOnes v != bit) =
      decide (((List.range 8).countP (fun i => v.getLsbD i) + (if bit then 1 else 0)) % 2 = 1) := by
  rw [oddOnes_eq]
  cases bit
  · simp
  · rw [Bool.bne_true, ← decide_not, if_pos rfl, decide_eq_decide]
    omega

theorem byteInError_iff (parity : Parity) (v : Byte) (bit stopMark : Bool) :
    byteInError parity v bit stopMark = true ↔
      stopMark = false ∨
        (parity = .even ∧ ((List.range 8).countP (fun i => v.getLsbD i) + (if bit then 1 else 0)) % 2 = 1) ∨
        (parity = .odd ∧ ((List.range 8).countP (fun i => v.getLsbD i) + (if bit then 1 else 0)) % 2 = 0) := by
  unfold byteInError
  rw [Bool.or_eq_true, Bool.not_eq_true']
  refine or_congr Iff.rfl ?_
  cases parity with
  | none => simp
  | even =>
    rw [oddOnes_bne, decide_eq_true_eq]
    simp
  | odd =>
    have same : (oddOnes v == bit) = !(oddOnes v != bit) := (Bool.not_not _).symm
    rw [same, oddOnes_bne, Bool.not_eq_true', decide_eq_false_iff_not, ← ne_eq, Nat.mod_two_ne_one]
    simp

/-! ## A terminator (R81) -/

theorem LineFormat.completes_iff (f : LineFormat) (before : Option RxByte) (b : RxByte) :
    f.completes before b = true ↔
      b.error = false ∧
        ((f.twoByteTerminator = false ∧ b.value = f.terminator1) ∨
          (f.twoByteTerminator = true ∧ b.value = f.terminator2 ∧
            ∃ x, before = some x ∧ x.error = false ∧ x.value = f.terminator1)) := by
  unfold LineFormat.completes
  rw [Bool.and_eq_true, Bool.not_eq_true']
  refine and_congr_right' ?_
  cases f.twoByteTerminator with
  | false => simp
  | true => cases before <;> simp

/-! ## The judgement of a body (R85) -/

section
variable {f : LineFormat} {lo : Nat} {body : List RxByte}

theorem LineFormat.causeOf_error (h : ∃ b ∈ body, b.error = true) : f.causeOf lo body = some .byteError :=
  if_pos (List.any_eq_true.2 h)

variable (clean : ∀ b ∈ body, b.error = false)
include clean

theorem LineFormat.causeOf_prefix {v : Byte} {l : List Byte} (hv : body.map RxByte.value = v :: l)
    (on : f.prefixOn = true) (wrong : v ≠ f.prefixByte) : f.causeOf lo body = some .wrongPrefix := by
  unfold LineFormat.causeOf
  rw [if_neg (by simpa using clean)]
  refine if_pos ?_
  rw [on, hv]
  simpa using wrong

/-- The tests that follow those of the bytes and of the prefix. -/
theorem LineFormat.causeOf_prefixed
    (pre : f.prefixOn = true → (body.map RxByte.value).head? = some f.prefixByte) :
    f.causeOf lo body =
      if body.length < f.leading + lo + f.trailing then some .length
      else if (f.dataOf (body.map RxByte.value)).any fun b => decide (b.toNat < 0x20) || decide (0x7E < b.toNat) then
        some .charset
      else if f.lrcOn && (body.map RxByte.value).getLast? !=
          some (xorAll ((f.idOf (body.map RxByte.value)).toList ++ f.dataOf (body.map RxByte.value))) then some .lrc
      else none := by
  unfold LineFormat.causeOf
  rw [if_neg (by simpa using clean)]
  refine (if_neg ?_).trans (by rw [List.length_map])
  cases on : f.prefixOn
  · exact Bool.false_ne_true
  · rw [pre on]
    simp

end

/-- The parts of a body, in the order of section 4.2. -/
structure LineFormat.Parts (f : LineFormat) (values pre id data lrc : List Byte) : Prop where
  whole : values = pre ++ id ++ data ++ lrc
  prefixPart : pre = if f.prefixOn then [f.prefixByte] else []
  idPart : id.length = if f.idOn then 1 else 0
  lrcPart : lrc.length = if f.lrcOn then 1 else 0

namespace LineFormat.Parts

variable {f : LineFormat} {values pre id data lrc : List Byte} (h : f.Parts values pre id data lrc)
include h

theorem length_pre : pre.length = if f.prefixOn then 1 else 0 := by
  rw [h.prefixPart]
  split <;> rfl

theorem leading : (pre ++ id).length = f.leading := by
  rw [List.length_append, h.length_pre, h.idPart]
  rfl

theorem dataOf : f.dataOf values = data := by
  have count : values.length - f.leading - f.trailing = data.length := by
    rw [h.whole, List.length_append, List.length_append, h.leading, h.lrcPart]
    show f.leading + data.length + f.trailing - f.leading - f.trailing = data.length
    omega
  rw [LineFormat.dataOf, count, h.whole, List.append_assoc, List.drop_left' h.leading, List.take_left' rfl]

theorem idOf : f.idOf values = id.head? := by
  unfold LineFormat.idOf
  cases on : f.idOn
  · have none : id = [] := List.length_eq_zero_iff.1 (by rw [h.idPart, on]; rfl)
    rw [none]
    rfl
  · have first : values[pre.length]? = id[0]? := by
      rw [h.whole, List.append_assoc, List.append_assoc, List.getElem?_append_right (Nat.le_refl _), Nat.sub_self,
        List.getElem?_append_left (by rw [h.idPart, on]; decide)]
    rw [h.length_pre] at first
    rw [if_pos rfl, first, List.head?_eq_getElem?]

theorem idOf_toList : (f.idOf values).toList = id := by
  have short : id.length ≤ 1 := by
    rw [h.idPart]
    split <;> decide
  rw [h.idOf]
  match id, short with
  | [], _ => rfl
  | [a], _ => rfl

theorem getLast? (on : f.lrcOn = true) (c : Byte) : values.getLast? = some c ↔ lrc = [c] := by
  have one : lrc.length = 1 := by rw [h.lrcPart, if_pos on]
  obtain ⟨a, rfl⟩ := List.length_eq_one_iff.1 one
  rw [h.whole, List.getLast?_append]
  simp

theorem head? (on : f.prefixOn = true) : values.head? = some f.prefixByte := by
  rw [h.whole, h.prefixPart, if_pos on]
  rfl

theorem length : values.length = f.leading + data.length + f.trailing := by
  rw [h.whole, List.length_append, List.length_append, h.leading, h.lrcPart]
  rfl

end LineFormat.Parts

section
variable {f : LineFormat} {lo : Nat} {body : List RxByte} {pre id data lrc : List Byte}
  (clean : ∀ b ∈ body, b.error = false) (h : f.Parts (body.map RxByte.value) pre id data lrc)
include clean h

/-- The tests on the parts of a body. -/
theorem LineFormat.causeOf_parts :
    f.causeOf lo body =
      if data.length < lo then some .length
      else if data.any fun b => decide (b.toNat < 0x20) || decide (0x7E < b.toNat) then some .charset
      else if f.lrcOn = true ∧ lrc ≠ [xorAll (id ++ data)] then some .lrc
      else none := by
  have size : body.length = f.leading + data.length + f.trailing := by
    rw [← h.length, List.length_map]
  rw [LineFormat.causeOf_prefixed clean h.head?, h.dataOf, h.idOf_toList]
  refine if_congr (by omega) rfl (if_congr Iff.rfl rfl (if_congr ?_ rfl rfl))
  rw [Bool.and_eq_true, bne_iff_ne]
  exact and_congr_right fun on => not_congr (h.getLast? on _)

end

theorem LineFormat.frameOf_parts {f : LineFormat} {body : List RxByte} {pre id data lrc : List Byte}
    (h : f.Parts (body.map RxByte.value) pre id data lrc) (now : Time) (mark : Bool) :
    f.frameOf now mark body = { id := id.head?, data := data, time := now, inhibited := mark } := by
  unfold LineFormat.frameOf
  simp only [h.dataOf, h.idOf]

theorem charset_bad_iff (data : List Byte) :
    (data.any fun b => decide (b.toNat < 0x20) || decide (0x7E < b.toNat)) = true ↔
      ∃ c ∈ data, c.toNat < 0x20 ∨ 0x7E < c.toNat := by
  simp only [List.any_eq_true, Bool.or_eq_true, decide_eq_true_eq]

theorem charset_good {data : List Byte} (h : ∀ c ∈ data, 0x20 ≤ c.toNat ∧ c.toNat ≤ 0x7E) :
    ¬ (data.any fun b => decide (b.toNat < 0x20) || decide (0x7E < b.toNat)) = true := by
  rw [charset_bad_iff]
  rintro ⟨c, hc, bad⟩
  have := h c hc
  omega

/-- Settles O32: the ones by their parity, the judgement by the tests on the parts of a body. -/
theorem frameReading : Obligations.FrameReading := by
  refine ⟨⟨byteInError_iff, LineFormat.completes_iff⟩, fun f hi => rfl, fun f lo body h => LineFormat.causeOf_error h,
    fun f lo body v l clean hv on wrong => LineFormat.causeOf_prefix clean hv on wrong,
    fun f lo body clean pre short => ?_,
    fun f lo body pre id data lrc clean whole hpre hid hlrc => ⟨fun short => ?_, fun long bad => ?_,
      fun long good => ⟨fun on wrong => ?_, fun right => ⟨?_, fun now mark => ?_⟩⟩⟩⟩
  · exact (LineFormat.causeOf_prefixed clean pre).trans (if_pos short)
  · rw [LineFormat.causeOf_parts clean ⟨whole, hpre, hid, hlrc⟩, if_pos short]
  · rw [LineFormat.causeOf_parts clean ⟨whole, hpre, hid, hlrc⟩, if_neg (Nat.not_lt.2 long),
      if_pos ((charset_bad_iff data).2 bad)]
  · rw [LineFormat.causeOf_parts clean ⟨whole, hpre, hid, hlrc⟩, if_neg (Nat.not_lt.2 long), if_neg (charset_good good),
      if_pos ⟨on, wrong⟩]
  · rw [LineFormat.causeOf_parts clean ⟨whole, hpre, hid, hlrc⟩, if_neg (Nat.not_lt.2 long), if_neg (charset_good good),
      if_neg fun wrong => wrong.2 (right wrong.1)]
  · exact LineFormat.frameOf_parts ⟨whole, hpre, hid, hlrc⟩ now mark

end Sys2Proof.Machine

/-!
PROOF. SET_SCANNER_LINE and SET_SCANNER_IDS (obligation O36): the settings and the id map in a body, and the code an id
byte gives.
-/

namespace Sys2Proof.Machine

/-! ## The line settings in a body (R99) -/

theorem lineRateOf_eq_none {b : Byte} (h : 4 < b.toNat) : lineRateOf b = none := by
  unfold lineRateOf
  rw [if_neg, if_neg, if_neg, if_neg, if_neg] <;> rintro rfl <;> exact absurd h (by decide)

theorem parityOf_eq_none {b : Byte} (h : 2 < b.toNat) : parityOf b = none := by
  unfold parityOf
  rw [if_neg, if_neg, if_neg] <;> rintro rfl <;> exact absurd h (by decide)

@[simp] theorem lineRateOf_code (r : LineRate) : lineRateOf r.code = some r := by cases r <;> rfl

@[simp] theorem parityOf_code (p : Parity) : parityOf p.code = some p := by cases p <;> rfl

/-- An enumeration value of the format does not exist (R99 test 4). -/
theorem lineFormatAt_eq_none {b : List Byte}
    (h : 4 < natAt b 2 ∨ 2 < natAt b 3 ∨ 1 < natAt b 4 ∨ 1 < natAt b 6 ∨ 1 < natAt b 7 ∨
      (byteAt b 8 ≠ 1 ∧ byteAt b 8 ≠ 2)) : lineFormatAt b = none := by
  unfold lineFormatAt
  split
  · rename_i rate parity hrate hparity
    refine if_neg fun tests => ?_
    simp only [Bool.and_eq_true, Bool.or_eq_true, beq_iff_eq] at tests
    obtain ⟨⟨⟨pre, id⟩, lrc⟩, terminator⟩ := tests
    rcases h with h | h | h | h | h | h
    · exact nomatch hrate.symm.trans (lineRateOf_eq_none h)
    · exact nomatch hparity.symm.trans (parityOf_eq_none h)
    · exact absurd pre (Bool.eq_false_iff.1 (isFlag_eq_false h))
    · exact absurd id (Bool.eq_false_iff.1 (isFlag_eq_false h))
    · exact absurd lrc (Bool.eq_false_iff.1 (isFlag_eq_false h))
    · exact terminator.elim h.1 h.2
  · rfl

theorem lineSettingsAt_eq_none {b : List Byte}
    (h : 4 < natAt b 2 ∨ 2 < natAt b 3 ∨ 1 < natAt b 4 ∨ 1 < natAt b 6 ∨ 1 < natAt b 7 ∨
      (byteAt b 8 ≠ 1 ∧ byteAt b 8 ≠ 2) ∨ 1 < natAt b 19) : lineSettingsAt b = none := by
  unfold lineSettingsAt
  rcases h with h | h | h | h | h | h | h
  · rw [lineFormatAt_eq_none (Or.inl h)]
  · rw [lineFormatAt_eq_none (Or.inr (Or.inl h))]
  · rw [lineFormatAt_eq_none (Or.inr (Or.inr (Or.inl h)))]
  · rw [lineFormatAt_eq_none (Or.inr (Or.inr (Or.inr (Or.inl h))))]
  · rw [lineFormatAt_eq_none (Or.inr (Or.inr (Or.inr (Or.inr (Or.inl h)))))]
  · rw [lineFormatAt_eq_none (Or.inr (Or.inr (Or.inr (Or.inr (Or.inr h)))))]
  · split
    · exact if_neg (Bool.eq_false_iff.1 (isFlag_eq_false h))
    · rfl

/-- The bytes of a line format (R207). -/
def LineFormat.bytes (f : LineFormat) : List Byte :=
  [f.rate.code, f.parity.code, flagByte f.prefixOn, f.prefixByte, flagByte f.idOn, flagByte f.lrcOn,
    if f.twoByteTerminator then 2 else 1, f.terminator1, f.terminator2]

theorem lineFormatAt_bytes (a c : Byte) (f : LineFormat) (l : List Byte) :
    lineFormatAt (a :: c :: (f.bytes ++ l)) = some f := by
  obtain ⟨rate, parity, prefixOn, prefixByte, idOn, lrcOn, two, t1, t2⟩ := f
  cases two <;> simp [lineFormatAt, LineFormat.bytes]

theorem lineSettingsAt_body (a c mn mx lk ls w ex : Byte) (gap : Half) (rehunt : Bool) (f : LineFormat) :
    lineSettingsAt (a :: c :: (f.bytes ++ ([mn, mx] ++ halfBytes gap ++ [lk, ls, w, ex, flagByte rehunt]))) =
      some
        { format := f, minData := mn.toNat, maxData := mx.toNat, gapLimit := gap.toNat, lockCount := lk.toNat,
          lossCount := ls.toNat, windowSeconds := w.toNat, excessLimit := ex.toNat, rehunt := rehunt } := by
  unfold lineSettingsAt
  rw [lineFormatAt_bytes]
  simp [LineFormat.bytes, natAt, nat2At, halfBytes, halfAt_cons_cons]

theorem LineSettings.bytes_eq (l : LineSettings) :
    l.bytes =
      l.format.bytes ++ (num1 l.minData ++ num1 l.maxData ++ num2 l.gapLimit ++ num1 l.lockCount ++ num1 l.lossCount ++
        num1 l.windowSeconds ++ num1 l.excessLimit ++ [flagByte l.rehunt]) := by
  have terminator : num1 l.format.terminatorLength = [if l.format.twoByteTerminator then (2 : Byte) else 1] := by
    unfold LineFormat.terminatorLength
    split <;> rfl
  unfold LineSettings.bytes LineFormat.bytes
  rw [terminator]
  simp

/-! ## SET_SCANNER_LINE (R99, R100) -/

theorem exec_setScannerLine (tag : Byte) (b : List Byte) (s : State) :
    exec (.setScannerLine tag b) s = .next (s.takeWith 0x09 tag b setScannerLineRule) := rfl

theorem ScannerPort.configure_eq (x : ScannerPort) (now : Time) (p : PortId) (l : LineSettings) :
    x.configure now p l =
      if x.receiverOn = true ∧ l.format ≠ x.line.format then
        ScannerPort.toHunt now p .resync { x with line := l, framing := .skipping, bytes := [] }
      else if x.receiverOn = true ∧ x.framing = .aligned ∧ x.bytes ≠ [] ∧ l.gapLimit < elapsed now x.lastByte then
        ScannerPort.badFrame now p .gap { x with line := l, framing := .skipping, bytes := [] }
      else ({ x with line := l }, []) := by
  unfold ScannerPort.configure
  refine if_congr (and_congr_right' ne_comm) rfl ?_
  exact if_congr (ScannerPort.gapExpired_iff { x with line := l } now) rfl rfl

section
variable {tag : Byte} (ht : tag ≠ 0) (q : LaneId) (p : PortId) {b : List Byte}
  (hb : (laneByte q :: portByte p :: b).length = 20) (s : State)
include ht hb

theorem exec_setScannerLine_badArgument (h : lineSettingsAt (laneByte q :: portByte p :: b) = none) :
    exec (.setScannerLine tag (laneByte q :: portByte p :: b)) s = .next (s.replied tag 0x09 .badArgument []) := by
  refine (exec_port_of_portRule exec_setScannerLine s ht hb).trans ?_
  simp only [h, State.answer_refuse]

variable {given l : LineSettings} (hg : lineSettingsAt (laneByte q :: portByte p :: b) = some given)
  (hl : given.clamped = l)
include hg hl

theorem exec_setScannerLine_badOrder (h : l.maxData < l.minData) :
    exec (.setScannerLine tag (laneByte q :: portByte p :: b)) s = .next (s.replied tag 0x09 .badArgument []) := by
  refine (exec_port_of_portRule exec_setScannerLine s ht hb).trans ?_
  simp only [hg, hl, if_pos h, State.answer_refuse]

theorem exec_setScannerLine_taken (h : l.minData ≤ l.maxData) :
    exec (.setScannerLine tag (laneByte q :: portByte p :: b)) s =
      .next ((s.portDoes q p (ScannerPort.configure s.time p l)).settle.replied tag 0x09
        (if l = given then .ok else .adjusted) ([laneByte q, portByte p] ++ l.bytes)) := by
  refine (exec_port_of_portRule exec_setScannerLine s ht hb).trans ?_
  simp only [hg, hl, if_neg (Nat.not_lt.2 h), carriedOut_beq, State.answer_reply]

end

theorem LineSettings.eq_iff (g l : LineSettings) :
    g = l ↔ g.format = l.format ∧ g.minData = l.minData ∧ g.maxData = l.maxData ∧ g.gapLimit = l.gapLimit ∧
      g.lockCount = l.lockCount ∧ g.lossCount = l.lossCount ∧ g.windowSeconds = l.windowSeconds ∧
      g.excessLimit = l.excessLimit ∧ g.rehunt = l.rehunt := by
  obtain ⟨f, mn, mx, gap, lk, ls, w, ex, re⟩ := g
  exact LineSettings.mk.injEq .. ▸ Iff.rfl

/-! ## The id map (R101, R102) -/

/-- The three bytes of an entry. -/
def idBytes (m : Fin 16 → Byte × Byte × Byte) (i : Fin 16) : List Byte := [(m i).1, (m i).2.1, (m i).2.2]

section
variable (m : Fin 16 → Byte × Byte × Byte) (a c : Byte)

theorem byteAt_idEntry (i : Fin 16) :
    byteAt (a :: c :: (List.finRange 16).flatMap (idBytes m)) (2 + 3 * i.val) = (m i).1 ∧
      byteAt (a :: c :: (List.finRange 16).flatMap (idBytes m)) (3 + 3 * i.val) = (m i).2.1 ∧
      byteAt (a :: c :: (List.finRange 16).flatMap (idBytes m)) (4 + 3 * i.val) = (m i).2.2 := by
  fin_cases i <;> exact ⟨rfl, rfl, rfl⟩

theorem idMapAt_get (b : List Byte) (i : Fin 16) : (idMapAt b).get i = idEntryAt b i.val := by
  fin_cases i <;> rfl

theorem idMapAt_entries (i : Fin 16) :
    (idMapAt (a :: c :: (List.finRange 16).flatMap (idBytes m))).get i =
      if (m i).1 = 0 then IdEntry.unused else { used := true, id := (m i).2.1, code := (m i).2.2 } := by
  obtain ⟨flag, id, code⟩ := byteAt_idEntry m a c i
  rw [idMapAt_get, idEntryAt, flag, id, code]

theorem idMapAt_used_iff (i : Fin 16) :
    ((idMapAt (a :: c :: (List.finRange 16).flatMap (idBytes m))).get i).used = true ↔ (m i).1 ≠ 0 := by
  rw [idMapAt_entries]
  split
  · rename_i zero
    exact iff_of_false nofun (not_not_intro zero)
  · rename_i used
    exact iff_of_true rfl used

end

theorem toList_eq_map_get {α : Type} (v : Vector α 16) : v.toList = (List.finRange 16).map v.get := by
  refine List.ext_getElem (by simp) fun i hi _ => ?_
  simp [Vector.get]

theorem usedEntries_eq (v : Vector IdEntry 16) :
    usedEntries v = ((List.finRange 16).filter fun i => (v.get i).used).map v.get := by
  rw [usedEntries, toList_eq_map_get, List.filter_map]
  rfl

theorem mem_usedEntries (v : Vector IdEntry 16) (e : IdEntry) :
    e ∈ usedEntries v ↔ ∃ i, (v.get i).used = true ∧ v.get i = e := by
  simp [usedEntries_eq]

theorem usedEntries_ids_nodup (v : Vector IdEntry 16) :
    ((usedEntries v).map IdEntry.id).Nodup ↔
      ∀ i j, i ≠ j → (v.get i).used = true → (v.get j).used = true → (v.get i).id ≠ (v.get j).id := by
  rw [usedEntries_eq, List.map_map, List.nodup_map_iff_inj_on ((List.nodup_finRange 16).filter _)]
  simp only [List.mem_filter, List.mem_finRange, true_and, Function.comp_apply]
  constructor
  · exact fun inj i j apart hi hj same => apart (inj i hi j hj same)
  · exact fun differ i hi j hj same => by_contra fun apart => differ i j apart hi hj same

/-- The tests of R102 on a map, by its entries. -/
theorem badIdMap_iff (m : Fin 16 → Byte × Byte × Byte) (a c : Byte) :
    badIdMap (a :: c :: (List.finRange 16).flatMap (idBytes m)) = true ↔
      (∃ i, 1 < (m i).1.toNat) ∨ (∃ i, (m i).1 ≠ 0 ∧ 15 < (m i).2.2.toNat) ∨
        ∃ i j, i ≠ j ∧ (m i).1 ≠ 0 ∧ (m j).1 ≠ 0 ∧ (m i).2.1 = (m j).2.1 := by
  have entry : ∀ i, (m i).1 ≠ 0 → (idMapAt (a :: c :: (List.finRange 16).flatMap (idBytes m))).get i =
      { used := true, id := (m i).2.1, code := (m i).2.2 } := fun i used => by
    rw [idMapAt_entries, if_neg used]
  unfold badIdMap
  rw [Bool.or_eq_true, Bool.or_eq_true, or_assoc, Bool.not_eq_true', decide_eq_false_iff_not, usedEntries_ids_nodup]
  refine or_congr ?_ (or_congr ?_ ?_)
  · rw [List.any_eq_true]
    constructor
    · rintro ⟨i, hi, bad⟩
      obtain ⟨flag, -, -⟩ := byteAt_idEntry m a c ⟨i, List.mem_range.1 hi⟩
      rw [flag, isFlag, Bool.not_eq_true', decide_eq_false_iff_not] at bad
      exact ⟨⟨i, List.mem_range.1 hi⟩, by omega⟩
    · rintro ⟨i, bad⟩
      refine ⟨i.val, List.mem_range.2 i.isLt, ?_⟩
      rw [(byteAt_idEntry m a c i).1, isFlag_eq_false bad]
      rfl
  · rw [List.any_eq_true]
    constructor
    · rintro ⟨e, he, bad⟩
      obtain ⟨i, used, rfl⟩ := (mem_usedEntries _ e).1 he
      have used := (idMapAt_used_iff m a c i).1 used
      rw [entry i used] at bad
      exact ⟨i, used, of_decide_eq_true bad⟩
    · rintro ⟨i, used, bad⟩
      refine ⟨_, (mem_usedEntries _ _).2 ⟨i, (idMapAt_used_iff m a c i).2 used, rfl⟩, ?_⟩
      rw [entry i used]
      exact decide_eq_true bad
  · constructor
    · intro repeated
      by_contra none
      refine repeated fun i j apart hi hj same => none ⟨i, j, apart, ?_⟩
      have hi := (idMapAt_used_iff m a c i).1 hi
      have hj := (idMapAt_used_iff m a c j).1 hj
      rw [entry i hi, entry j hj] at same
      exact ⟨hi, hj, same⟩
    · rintro ⟨i, j, apart, hi, hj, same⟩ distinct
      refine distinct i j apart ((idMapAt_used_iff m a c i).2 hi) ((idMapAt_used_iff m a c j).2 hj) ?_
      rw [entry i hi, entry j hj]
      exact same

/-! ## The code of an id byte (R101) -/

section
variable (v : Vector IdEntry 16)

theorem symbologyOf_eq (id : Byte) :
    symbologyOf v (some id) =
      match v.toList.find? fun e => e.used && e.id == id with
      | some e => e.code
      | none => 0 := rfl

theorem symbologyOf_absent {id : Byte} (h : ∀ i : Fin 16, (v.get i).used = true → (v.get i).id ≠ id) :
    symbologyOf v (some id) = 0 := by
  have none : (v.toList.find? fun e => e.used && e.id == id) = none := by
    refine List.find?_eq_none.2 fun e he => ?_
    rw [toList_eq_map_get] at he
    obtain ⟨i, -, rfl⟩ := List.mem_map.1 he
    rw [Bool.and_eq_true, beq_iff_eq]
    exact fun found => h i found.1 found.2
  rw [symbologyOf_eq, none]

theorem symbologyOf_present {i : Fin 16} (used : (v.get i).used = true)
    (only : ∀ j : Fin 16, (v.get j).used = true → (v.get j).id = (v.get i).id → j = i) :
    symbologyOf v (some (v.get i).id) = (v.get i).code := by
  have found : (v.toList.find? fun e => e.used && e.id == (v.get i).id) = some (v.get i) := by
    cases hf : v.toList.find? fun e => e.used && e.id == (v.get i).id with
    | none =>
      have absent := List.find?_eq_none.1 hf (v.get i)
        (by rw [toList_eq_map_get]; exact List.mem_map.2 ⟨i, List.mem_finRange i, rfl⟩)
      exact absurd (by rw [used, beq_self_eq_true]; rfl) absent
    | some e =>
      have he := List.mem_of_find?_eq_some hf
      rw [toList_eq_map_get] at he
      obtain ⟨j, -, rfl⟩ := List.mem_map.1 he
      have test := List.find?_some hf
      rw [Bool.and_eq_true, beq_iff_eq] at test
      rw [only j test.1 test.2]
  rw [symbologyOf_eq, found]

end

/-! ## SET_SCANNER_IDS (R102) -/

theorem exec_setScannerIds (tag : Byte) (b : List Byte) (s : State) :
    exec (.setScannerIds tag b) s = .next (s.takeWith 0x0A tag b setScannerIdsRule) := rfl

theorem length_idBytes (m : Fin 16 → Byte × Byte × Byte) : ((List.finRange 16).flatMap (idBytes m)).length = 48 := rfl

/-- The number of used entries, where every flag is 0 or 1. -/
theorem usedEntries_length {m : Fin 16 → Byte × Byte × Byte} (a c : Byte) (flags : ∀ i, (m i).1 = 0 ∨ (m i).1 = 1) :
    (usedEntries (idMapAt (a :: c :: (List.finRange 16).flatMap (idBytes m)))).length =
      (List.finRange 16).countP fun i => (m i).1 == 1 := by
  rw [usedEntries_eq, List.length_map, ← List.countP_eq_length_filter]
  refine List.countP_congr fun i _ => ?_
  rw [idMapAt_used_iff, beq_iff_eq]
  rcases flags i with zero | one
  · rw [zero]
    decide
  · rw [one]
    decide

/-- Settles O36: the settings and the map as their bodies carry them, by the tests in order. -/
theorem scannerSettings : Obligations.ScannerSettings := by
  refine ⟨⟨wrongLengthRefused_of_portRule exec_setScannerLine, badLaneRefused_of_portRule exec_setScannerLine,
      badPortRefused_of_portRule exec_setScannerLine, fun tag q p b s ht hb h => ?_,
      fun tag mn mx lk ls w ex gap rehunt f l st q p x s b ht hx hb hl hst => ?_⟩,
    wrongLengthRefused_of_portRule exec_setScannerIds, badLaneRefused_of_portRule exec_setScannerIds,
    badPortRefused_of_portRule exec_setScannerIds, fun tag q p m b s ht hb => ?_, fun v => rfl,
    fun v id h => symbologyOf_absent v h, fun v i used only => symbologyOf_present v used only⟩
  · exact exec_setScannerLine_badArgument ht q p (by rw [List.length_cons, List.length_cons, hb]) s
      (lineSettingsAt_eq_none h)
  · obtain rfl : b = laneByte q :: portByte p ::
        (f.bytes ++ ([mn, mx] ++ halfBytes gap ++ [lk, ls, w, ex, flagByte rehunt])) := hb
    have given := lineSettingsAt_body (laneByte q) (portByte p) mn mx lk ls w ex gap rehunt f
    have format : l.format = f := by rw [hl]
    have rehunts : l.rehunt = rehunt := by rw [hl]
    refine ⟨fun order => exec_setScannerLine_badOrder ht q p rfl s given hl.symm order, fun order r hr => ?_⟩
    refine (exec_setScannerLine_taken ht q p rfl s given hl.symm order).trans ?_
    have configured := (s.port q p).configure_eq s.time p l
    rw [format, ← hx, ← hr] at configured
    rw [State.portDoes_eq (by rw [← hx, configured]), hst, LineSettings.bytes_eq, format, rehunts]
    simp only [LineSettings.eq_iff, format, rehunts, true_and, and_true]
    rfl
  · obtain rfl : b = laneByte q :: portByte p :: (List.finRange 16).flatMap (idBytes m) := hb
    have length : (laneByte q :: portByte p :: (List.finRange 16).flatMap (idBytes m)).length = 50 := by
      rw [List.length_cons, List.length_cons, length_idBytes]
    refine ⟨fun bad => ?_, fun flags distinct => ?_⟩
    · refine (exec_port_of_portRule exec_setScannerIds s ht length).trans ?_
      have refused : badIdMap (laneByte q :: portByte p :: (List.finRange 16).flatMap (idBytes m)) = true := by
        rw [badIdMap_iff]
        rcases bad with ⟨i, flag | ⟨used, code⟩⟩ | ⟨i, j, apart, hi, hj, same⟩
        · exact Or.inl ⟨i, flag⟩
        · exact Or.inr (Or.inl ⟨i, by rw [used]; decide, code⟩)
        · exact Or.inr (Or.inr ⟨i, j, apart, by rw [hi]; decide, by rw [hj]; decide, same⟩)
      rw [if_pos refused, State.answer_refuse]
    · have values : ∀ i, (m i).1 = 0 ∨ (m i).1 = 1 := fun i => (flags i).imp_right And.left
      have accepted : ¬ badIdMap (laneByte q :: portByte p :: (List.finRange 16).flatMap (idBytes m)) = true := by
        rw [badIdMap_iff]
        rintro (⟨i, flag⟩ | ⟨i, used, code⟩ | ⟨i, j, apart, hi, hj, same⟩)
        · rcases values i with zero | one
          · rw [zero] at flag
            exact absurd flag (by decide)
          · rw [one] at flag
            exact absurd flag (by decide)
        · exact Nat.not_lt.2 ((flags i).resolve_left used).2 code
        · exact distinct i j apart ((values i).resolve_left hi) ((values j).resolve_left hj) same
      refine ⟨idMapAt (laneByte q :: portByte p :: (List.finRange 16).flatMap (idBytes m)), fun i => ?_, ?_⟩
      · rw [idMapAt_entries]
        rcases values i with zero | one
        · rw [if_pos zero, if_neg (by rw [zero]; decide)]
          rfl
        · rw [if_neg (by rw [one]; decide), if_pos one]
      · refine (exec_port_of_portRule exec_setScannerIds s ht length).trans ?_
        rw [if_neg accepted, State.answer_reply, usedEntries_length _ _ values]

end Sys2Proof.Machine

/-!
PROOF. The Symbol Checker (obligation O38): the check digit, and each stage of a taken symbol.
-/

namespace Sys2Proof.Machine

/-! ## The check digit (R108 to R110) -/

theorem verifiedLength_iff (code : Byte) (n : Nat) :
    verifiedLength code = some n ↔ (code, n) ∈ [((1 : Byte), 13), (2, 8), (3, 12)] := by
  unfold verifiedLength
  split_ifs <;> simp_all [eq_comm]

theorem failsCheck_iff (checks : Half) (code : Byte) (data : List Byte) :
    failsCheck checks code data = true ↔
      ∃ n, verifiedLength code = some n ∧ checks.getLsbD code.toNat = true ∧ passesCheck n data = false := by
  unfold failsCheck
  cases verifiedLength code with
  | none => simp
  | some n => simp

/-- The weights of n digits from the right, the first 3 when `three` (R110). -/
def digitWeights : Bool → Nat → List Nat
  | _, 0 => []
  | three, n + 1 => (if three then 3 else 1) :: digitWeights (!three) n

theorem weightedFromRight_eq_sum : ∀ (l : List Byte) (three : Bool) (n : Nat), l.length ≤ n →
    weightedFromRight three l = ((l.zip (digitWeights three n)).map fun x => (x.1.toNat - 0x30) * x.2).sum
  | [], _, _, _ => rfl
  | b :: l, three, n + 1, h => by
    have tail := weightedFromRight_eq_sum l (!three) n (Nat.le_of_succ_le_succ h)
    unfold weightedFromRight
    rw [tail]
    rfl

theorem passesCheck_snoc (n : Nat) (body : List Byte) (last : Byte) :
    passesCheck n (body ++ [last]) = true ↔
      body.length + 1 = n ∧ (∀ b ∈ body ++ [last], 0x30 ≤ b.toNat ∧ b.toNat ≤ 0x39) ∧
        digitValue last = expectedCheck body := by
  simp only [passesCheck, Bool.and_eq_true, decide_eq_true_eq, List.all_eq_true, isDigit_iff, List.getLast?_concat,
    List.dropLast_concat, Option.map_some, Option.some.injEq, List.length_append, List.length_singleton, and_assoc]

theorem expectedCheck_eq {digits : List Byte} (h : digits.length ≤ 12) :
    expectedCheck digits =
      (10 - ((digits.reverse.zip [3, 1, 3, 1, 3, 1, 3, 1, 3, 1, 3, 1]).map
        fun x => (x.1.toNat - 0x30) * x.2).sum % 10) % 10 := by
  unfold expectedCheck
  rw [weightedFromRight_eq_sum digits.reverse true 12 (by rwa [List.length_reverse])]
  rfl

/-! ## A check failure returned to the port (R94) -/

section
variable {y z : ScannerPort} (now : Time) (p : PortId)
  (hz : z = { y with counters := { y.counters with checkFailures := y.counters.checkFailures + 1 } })
include hz

theorem ScannerPort.checkFailure_unlocked (h : y.alignment ≠ .locked) : y.checkFailure now p = (z, []) := by
  subst hz
  unfold ScannerPort.checkFailure
  cases ha : y.alignment with
  | locked => exact absurd ha h
  | hunt => rfl
  | candidate => rfl

theorem ScannerPort.checkFailure_locked (h : y.alignment = .locked) {r : ScannerPort × List LaneEffect}
    (hr : z.countItem now p = r) :
    y.checkFailure now p =
      if y.excessNow && y.line.rehunt then
        ((r.1.leaveLocked now p .excess).1, r.2 ++ (r.1.leaveLocked now p .excess).2)
      else r := by
  subst hz hr
  unfold ScannerPort.checkFailure
  simp only [h]

theorem ScannerPort.checkFailure_quiet (h : y.alignment = .locked)
    (quiet : y.excessReported = true ∨ y.windowCount + 1 < y.line.excessLimit) :
    y.checkFailure now p = ({ z with windowCount := y.windowCount + 1 }, []) := by
  have hy : y.excessNow = false := by
    unfold ScannerPort.excessNow
    rcases quiet with reported | few
    · rw [reported, Bool.not_true, Bool.and_false]
    · rw [decide_eq_false (by omega), Bool.false_and]
  have hq : z.excessNow = false := by
    subst hz
    exact hy
  rw [ScannerPort.checkFailure_locked now p hz h (ScannerPort.countItem_quiet now p hq), hy]
  subst hz
  rfl

theorem ScannerPort.checkFailure_excess (h : y.alignment = .locked) (fresh : y.excessReported = false)
    (full : y.line.excessLimit ≤ y.windowCount + 1) {w : ScannerPort}
    (hw : w = { z with
      windowCount := y.windowCount + 1
      excessReported := true
      counters := { z.counters with excessEvents := z.counters.excessEvents + 1 } }) :
    y.checkFailure now p =
      if y.line.rehunt then
        ((w.leaveLocked now p .excess).1, .produce now (.scannerExcess p) :: (w.leaveLocked now p .excess).2)
      else (w, [.produce now (.scannerExcess p)]) := by
  have hy : y.excessNow = true := by
    unfold ScannerPort.excessNow
    rw [fresh, decide_eq_true full]
    rfl
  have hq : z.excessNow = true := by
    subst hz
    exact hy
  rw [ScannerPort.checkFailure_locked now p hz h (ScannerPort.countItem_excess now p hq), hy]
  subst hw hz
  rfl

end

/-! ## The recent-symbol list (R112 to R115) -/

section
variable {c : Checker} {code : Byte} {data : List Byte}

theorem RecentEntry.isMatch_eq_false {e : RecentEntry} (h : e.code ≠ code ∨ e.data ≠ data) :
    e.isMatch code data = false := by
  rw [Bool.eq_false_iff, Ne, RecentEntry.isMatch_iff, Prod.mk.injEq]
  rintro ⟨hc, hd⟩
  exact h.elim (fun no => no hc) fun no => no hd

theorem filter_unmatched {l : List RecentEntry} (h : ∀ o ∈ l, o.code ≠ code ∨ o.data ≠ data) :
    (l.filter fun e => !e.isMatch code data) = l :=
  List.filter_eq_self.2 fun o ho => by rw [RecentEntry.isMatch_eq_false (h o ho)]; rfl

theorem find?_unmatched {l : List RecentEntry} (h : ∀ o ∈ l, o.code ≠ code ∨ o.data ≠ data) :
    (l.find? fun e => e.isMatch code data) = none :=
  List.find?_eq_none.2 fun o ho => by rw [RecentEntry.isMatch_eq_false (h o ho)]; exact Bool.false_ne_true

theorem Checker.suppresses_off (now : Time) (h : c.holdTime = 0) : c.suppresses now code data = false := by
  unfold Checker.suppresses
  rw [h]
  rfl

theorem Checker.remember_off (now : Time) (h : c.holdTime = 0) : c.remember now code data = c := if_pos h

theorem Checker.remember_on (now : Time) (h : 0 < c.holdTime) :
    c.remember now code data =
      { c with recent := keptRecent c.recent code data ++ [{ code := code, data := data, time := now }] } :=
  if_neg (Nat.pos_iff_ne_zero.1 h)

theorem Checker.suppresses_unmatched (now : Time) (h : ∀ o ∈ c.recent, o.code ≠ code ∨ o.data ≠ data) :
    c.suppresses now code data = false := by
  unfold Checker.suppresses
  rw [find?_unmatched h, Bool.and_false]

theorem keptRecent_unmatched {l : List RecentEntry} (h : ∀ o ∈ l, o.code ≠ code ∨ o.data ≠ data) (fits : l.length ≤ 8) :
    keptRecent l code data = if l.length < 8 then l else l.drop 1 := by
  unfold keptRecent
  rw [filter_unmatched h]
  split
  · next few => rw [if_pos few]
  · next full => rw [if_neg full, show l.length - 7 = 1 by omega]

section
variable {older newer : List RecentEntry} {e : RecentEntry}
  (hl : ∀ o ∈ older ++ newer, o.code ≠ code ∨ o.data ≠ data) (he : e.code = code) (hd : e.data = data)
include hl he hd

theorem keptRecent_matched (fits : (older ++ e :: newer).length ≤ 8) :
    keptRecent (older ++ e :: newer) code data = older ++ newer := by
  have like : e.isMatch code data = true := (e.isMatch_iff code data).2 (by rw [he, hd])
  have others : ((older ++ e :: newer).filter fun e => !e.isMatch code data) = older ++ newer := by
    rw [List.filter_append, List.filter_cons_of_neg (by simp [like]), ← List.filter_append, filter_unmatched hl]
  unfold keptRecent
  rw [others]
  refine if_pos ?_
  rw [List.length_append, List.length_cons] at fits
  rw [List.length_append]
  omega

theorem Checker.suppresses_matched (now : Time) (on : 0 < c.holdTime) (hr : c.recent = older ++ e :: newer) :
    c.suppresses now code data = decide (elapsed now e.time < c.holdTime) := by
  have like : e.isMatch code data = true := (e.isMatch_iff code data).2 (by rw [he, hd])
  have found : (c.recent.find? fun e => e.isMatch code data) = some e := by
    rw [hr, List.find?_append, find?_unmatched fun o ho => hl o (List.mem_append_left _ ho), Option.none_or]
    exact List.find?_cons_of_pos like
  unfold Checker.suppresses
  rw [found, decide_eq_true on, Bool.true_and]

end

end

/-! ## Taking a symbol (R106, R107) -/

section
variable {s u : State} {q : LaneId} {x : Symbol} {c : Checker}

theorem State.withChecker_self (s : State) (q : LaneId) : s.withChecker q (s.checkers.get q) = s := by
  unfold State.withChecker
  rw [Lanes.set_get_self]

theorem exec_symbolTake_empty (h : (s.checkers.get q).inbox = []) : exec (.symbolTake q) s = .next s := by
  show execSymbolTake q s = .next s
  unfold execSymbolTake
  rw [h]

theorem exec_symbolTake_oldest {rest : List Symbol} (h : s.checkers.get q = { c with inbox := x :: rest })
    (hc : c.inbox = rest) : exec (.symbolTake q) s = .next ((s.withChecker q c).checkSymbol q x).settle := by
  subst hc
  show execSymbolTake q s = _
  unfold execSymbolTake
  rw [h]

/-- The stages of R107, for the checker, the port and the symbology code the symbol meets. -/
theorem State.checkSymbol_eq {y : ScannerPort} {code : Byte} (hc : u.checkers.get q = c) (hy : u.port q x.port = y)
    (hcode : symbologyOf y.idMap x.frame.id = code) :
    u.checkSymbol q x =
      if failsCheck (c.checks.get x.port) code x.frame.data then
        u.portDoes q x.port (ScannerPort.checkFailure u.time x.port)
      else if x.frame.inhibited then u.countPort q x.port fun n => { n with inhibited := n.inhibited + 1 }
      else if c.suppresses u.time code x.frame.data then
        (u.withChecker q (c.remember u.time code x.frame.data)).countPort q x.port fun n =>
          { n with repeatsSuppressed := n.repeatsSuppressed + 1 }
      else (u.withChecker q (c.remember u.time code x.frame.data)).meterSymbol q x code := by
  subst hc hy hcode
  rfl

end

/-- Settles O38: the check digit by its digits, and a taken symbol by the first stage that stops it. -/
theorem symbolsChecked : Obligations.SymbolsChecked := by
  refine ⟨⟨fun checks code data => ?_, fun n body last hn => ?_, fun n hn => ?_⟩, fun q s h => exec_symbolTake_empty h,
    fun q x rest c code u y s hs hc hu hy hcode => ?_⟩
  · simp only [failsCheck_iff, verifiedLength_iff]
  · rw [passesCheck_snoc]
    refine and_congr_right fun hlen => and_congr_right fun _ => ?_
    rw [expectedCheck_eq (by omega)]
    rfl
  · unfold passesCheck
    rw [decide_eq_false (by rw [List.length_nil]; omega)]
    rfl
  have taken := exec_symbolTake_oldest hs hc
  have time : u.time = s.time := by rw [hu]; rfl
  have port : u.port q x.port = y := by rw [hu, hy]; rfl
  have checker : u.checkers.get q = c := by rw [hu]; exact Lanes.get_set_self _ _ _
  rw [← hu, State.checkSymbol_eq checker port hcode.symm, time] at taken
  rw [taken]
  refine ⟨fun fails z hz => ?_, fun passes inhibited => ?_, fun passes clear => ⟨fun off => ?_,
    fun on older newer e hr hl he hd fits r hrr => ?_, fun on hl fits => ?_⟩⟩
  · rw [if_pos fails]
    refine ⟨fun unlocked => ?_, fun locked quiet => ?_, fun locked fresh full => ?_⟩
    · rw [State.portDoes_silent (by rw [port]; exact ScannerPort.checkFailure_unlocked _ _ hz unlocked)]
    · rw [State.portDoes_silent (by rw [port]; exact ScannerPort.checkFailure_quiet _ _ hz locked quiet)]
    · have failed := ScannerPort.checkFailure_excess s.time x.port hz locked fresh full rfl
      rw [State.portDoes_eq ((congrArg _ port).trans failed)]
      split <;> rfl
  · rw [passes, inhibited]
    simp only [State.countPort, port]
    rfl
  · rw [passes, clear, Checker.suppresses_off s.time off, Checker.remember_off s.time off, ← checker,
      State.withChecker_self]
    rfl
  · rw [passes, clear, Checker.suppresses_matched hl he hd s.time on hr, Checker.remember_on s.time on, hr,
      keptRecent_matched hl he hd (hr ▸ fits), ← hrr]
    refine ⟨fun soon => ?_, fun late => ?_⟩
    · rw [decide_eq_true soon]
      simp only [State.countPort, State.port, State.withChecker_scanners]
      rw [← State.port, port]
      rfl
    · rw [decide_eq_false (by omega)]
      rfl
  · rw [passes, clear, Checker.suppresses_unmatched s.time hl, Checker.remember_on s.time on,
      keptRecent_unmatched hl fits]
    rfl

end Sys2Proof.Machine

/-!
PROOF. The Scan Meter (obligation O39): the grading of a symbol, pacing holds and their release, and SET_METER.
-/

namespace Sys2Proof.Machine

/-! ## Refill and grade (R126, R127) -/

section
variable {m : Meter} (t : Time) {sum steady burst : Nat} {g : Grade}
  (hsum : sum = m.steady + min 65535 (elapsed t m.lastArrival) * m.rate)
include hsum

theorem Meter.refill_eq :
    m.refill t =
      { m with
        steady := min sum (m.steadyCapacity * 1000)
        burst := min (m.burst + (sum - m.steadyCapacity * 1000)) (m.burstCapacity * 1000) } := by
  subst hsum
  rfl

variable (hsteady : steady = min sum (m.steadyCapacity * 1000))
  (hburst : burst = min (m.burst + (sum - m.steadyCapacity * 1000)) (m.burstCapacity * 1000))
  (hg : g = if 1000 ≤ steady then .steady else if 1000 ≤ burst then .burst else .flood)
include hsteady hburst hg

theorem Meter.gradeAt_eq : m.gradeAt t = g := by
  unfold Meter.gradeAt
  rw [Meter.refill_eq t hsum, hg, hsteady, hburst]
  rfl

theorem Meter.graded_eq :
    m.graded t =
      { m with
        steady := if g = .steady then steady - 1000 else steady
        burst := if g = .burst then burst - 1000 else burst
        lastArrival := t } := by
  have grade : (m.refill t).gradeNow = g := Meter.gradeAt_eq t hsum hsteady hburst hg
  unfold Meter.graded
  simp only [grade]
  rw [Meter.refill_eq t hsum, ← hsteady, ← hburst]
  cases g <;> simp only [Meter.takeTokens, reduceCtorEq, if_true, if_false]

end

/-! ## Pacing holds (R128 to R130) -/

section
variable {m : Meter}

theorem Meter.startsHold_iff (m : Meter) (g : Grade) :
    m.startsHold g = true ↔ g = .flood ∧ m.pacingOn = true ∧ m.holds = false := by
  unfold Meter.startsHold Meter.holds
  cases m.pacing <;> simp

theorem Meter.holds_eq_false_iff (m : Meter) : m.holds = false ↔ m.pacing = .idle := by
  unfold Meter.holds
  cases m.pacing <;> simp

/-- An arrival moves a hold or starts one; otherwise the meter stays IDLE. -/
theorem Meter.paced_eq (m : Meter) (g : Grade) :
    m.paced g =
      { m with
        pacing := if m.holds = true ∨ (g = .flood ∧ m.pacingOn = true) then .holding m.releaseTime else .idle } := by
  have starts := m.startsHold_iff g
  unfold Meter.paced
  cases hp : m.pacing with
  | holding t =>
    rw [if_pos (Or.inl ((m.holds_iff).2 ⟨t, hp⟩))]
  | idle =>
    have idle := (m.holds_eq_false_iff).2 hp
    simp only [starts, idle, and_true, Bool.false_eq_true, false_or]
    split
    · rfl
    · rw [← hp]

theorem Meter.releaseDue_reached {t now : Time} (h : m.pacing = .holding t) (due : reached now t = true) :
    m.releaseDue now = some t := by
  unfold Meter.releaseDue
  rw [h]
  exact if_pos due

theorem Meter.releaseDue_early {now : Time} (h : ∀ t, m.pacing = .holding t → reached now t = false) :
    m.releaseDue now = none := by
  unfold Meter.releaseDue
  cases hp : m.pacing with
  | idle => rfl
  | holding t => exact if_neg (Bool.eq_false_iff.1 (h t hp))

theorem exec_pacingRelease_due {s : State} {q : LaneId} {p : PortId} {t : Time}
    (h : (s.meter q p).releaseDue s.time = some t) :
    exec (.pacingRelease q p) s =
      .next ((((s.withMeter q p ((s.meter q p).released t)).resolveInhibit q p).produce q t (.pacingOff p)).settle) := by
  show execPacingRelease q p s = _
  unfold execPacingRelease
  rw [h]

theorem exec_pacingRelease_early {s : State} {q : LaneId} {p : PortId} (h : (s.meter q p).releaseDue s.time = none) :
    exec (.pacingRelease q p) s = .next s := by
  show execPacingRelease q p s = _
  unfold execPacingRelease
  rw [h]

end

/-! ## SET_METER (R132, R133) -/

theorem exec_setMeter (tag : Byte) (b : List Byte) (s : State) :
    exec (.setMeter tag b) s = .next (s.takeWith 0x0D tag b setMeterRule) := rfl

theorem Meter.configured_eq (m : Meter) (now : Time) (rate sc bc p : Nat) (pacing : Bool) :
    m.configured now rate sc bc p pacing =
      { rate := clamp 1 50 rate, steadyCapacity := clamp 1 32 sc, burstCapacity := min 64 bc, pacingOn := pacing,
        releaseLevel := clamp 1 (clamp 1 32 sc) p, steady := clamp 1 32 sc * 1000, burst := min 64 bc * 1000,
        lastArrival := now, pacing := .idle } := by
  rw [← clamp_zero_left]
  rfl

/-- Settles O39: the meter of a symbol, of a release and of SET_METER, field by field. -/
theorem scanMeters : Obligations.ScanMeters := by
  refine ⟨fun q x code m m1 m2 sum steady burst g n s hm hsum hsteady hburst hg hm1 hm2 hn u hu => ?_,
    ⟨fun q p m t sum s hm hp due hsum => ?_, fun q p s h => exec_pacingRelease_early (Meter.releaseDue_early h)⟩,
    wrongLengthRefused_of_portRule exec_setMeter, badLaneRefused_of_portRule exec_setMeter,
    badPortRefused_of_portRule exec_setMeter, fun tag r sc bc e lv q p s ht he => ?_,
    fun tag r sc bc lv pacing q p m u s ht hm hu => ?_⟩
  · have grade := Meter.gradeAt_eq s.time hsum hsteady hburst hg
    have graded := (Meter.graded_eq s.time hsum hsteady hburst hg).trans hm1.symm
    have on : m1.pacingOn = m.pacingOn := by rw [hm1]
    have holds : m1.holds = m.holds := by rw [hm1]; rfl
    have counted : (s.port q x.port).counters.addGrade g = n := by
      rw [hn]
      cases g <;> rfl
    have paced : m1.paced g = m2 := by
      rw [Meter.paced_eq, hm2, on, holds]
      unfold Meter.releaseTime
      rw [show m1.lastArrival = s.time by rw [hm1], show m1.releaseLevel = m.releaseLevel by rw [hm1],
        show m1.rate = m.rate by rw [hm1]]
      rfl
    unfold State.meterSymbol State.countPort
    simp only [← hm, grade, graded, paced, counted, Meter.startsHold_iff, on, holds, ← hu]
  · have released : m.released t = _ := congrArg (fun r : Meter => { r with lastArrival := t, pacing := .idle })
      (Meter.refill_eq t hsum)
    rw [exec_pacingRelease_due (Meter.releaseDue_reached (hm ▸ hp) due), ← hm, released]
  · refine (exec_port_of_portRule exec_setMeter (b := [r, sc, bc, e, lv]) s ht rfl).trans ?_
    simp only [byteAt_succ, byteAt_zero, isFlag_eq_false he, Bool.false_eq_true, if_false, State.answer_refuse]
  · refine (exec_port_of_portRule exec_setMeter (b := [r, sc, bc, flagByte pacing, lv]) s ht rfl).trans ?_
    have configured := ((s.meter q p).configured_eq s.time r.toNat sc.toNat bc.toNat lv.toNat pacing).trans hm.symm
    have on : m.pacingOn = pacing := by rw [hm]
    have given : (m.rate == r.toNat && m.steadyCapacity == sc.toNat && m.burstCapacity == bc.toNat &&
        m.releaseLevel == lv.toNat) = true ↔
        m.rate = r.toNat ∧ m.steadyCapacity = sc.toNat ∧ m.burstCapacity = bc.toNat ∧ m.releaseLevel = lv.toNat := by
      simp only [Bool.and_eq_true, beq_iff_eq, and_assoc]
    simp only [natAt, byteAt_succ, byteAt_zero, isFlag_flagByte, if_true, State.answer_reply, flagOf_flagByte,
      configured, on, carriedOut_eq_if given, State.rewriteMeter, ← hu]

end Sys2Proof.Machine
